-- ==== Sys2Proof/Word.lean ====
section
/-! DEFINITION. The widths of the block's values (spec 00 "Conventions"): bytes, 16-bit counts and distances, 24-bit
positions, and the numbers of lanes, stations, profiles and priorities. -/

namespace Sys2Proof

/-- One byte of the register window. -/
abbrev Byte := BitVec 8

/-- A tick count or a position distance: unsigned 16 bits (00 "Times and distances"). -/
abbrev Half := BitVec 16

/-- A position, a value of P: unsigned 24 bits, sums modulo 2^24 (00 "Positions"). -/
abbrev Pos := BitVec 24

/-- Lanes are numbered 0 to 3. -/
abbrev LaneNo := Fin 4

/-- Stations are numbered 0 to 7. -/
abbrev StationNo := Fin 8

/-- Profiles are numbered 0 to 7. -/
abbrev ProfileNo := Fin 8

/-- A priority 0 to 7: 0 is the highest, 7 the lowest. -/
abbrev Priority := Fin 8

end Sys2Proof
end

