-- ==== Sys2Proof/Config.lean ====
section
/-! DEFINITION. What the part fixes: table sizes, fixed depths and limits; and the shapes of what comes in from outside
(levels, edges, pin samples, bus cycles, the mailbox commands). The spec leaves no value open, so there is no free value. -/

namespace Sys2Proof

/-- The item table has 32 slots (R50). -/
def Config.tableSlots : Nat := 32

/-- The outcome queue holds at most 16 records (R139). -/
def Config.queueDepth : Nat := 16

/-- The XSTOP filter has a fixed depth of 2 (R4). -/
def Config.xstopDepth : Nat := 2

/-- RESET is taken when four consecutive samples show it low (R162). -/
def Config.resetSamples : Nat := 4

/-- A write cycle that lasts fewer than 2 CLKIN periods is not taken (R149). -/
def Config.minWritePeriods : Nat := 2

/-- A sampled or qualified level (R2). -/
inductive Level where
  | low
  | high
  deriving DecidableEq, Repr

/-- A qualified edge: RISING from LOW to HIGH, FALLING from HIGH to LOW (R2). -/
inductive EdgeDir where
  | rising
  | falling
  deriving DecidableEq, Repr

/-- The six input pins as one tick samples them (R2, R3, R4, R30). -/
structure PinSamples where
  enc   : Level
  xstop : Level
  sns   : Vector Level 4
  deriving DecidableEq, Repr

/-- A write cycle: how many CLKIN periods CS and WR are low together, and whether RD is low too (R149). -/
structure BusCycle where
  periods : Nat
  rdLow   : Bool
  deriving DecidableEq, Repr

/-- The levels of the strobes CS, RD and WR at one moment; all three are active low (R149). -/
structure Strobes where
  cs : Level
  rd : Level
  wr : Level
  deriving DecidableEq, Repr

/-- What CS, RD and WR ask for at one moment (R149). -/
inductive AccessKind where
  | none
  | read
  | write
  deriving DecidableEq, Repr

/-- The commands of Table 9.2. -/
inductive HostCommand where
  | start | drain | halt | resume | clearLine
  | setTimebase | setPosition | setLane | setStation | setProfile | setFreeThreshold
  | readLane | readStation | readProfile | readItem | readTimebase
  | nextDetection | nextOutcome
  | verdict | pass | abort
  deriving DecidableEq, Repr

end Sys2Proof
end

