-- ==== Sys2Proof/Syntax.lean ====
section
/-! DEFINITION. The commands and events of spec/opcode_table.json, one constructor per row, with the row's operands.
A mailbox command carries no operand: it reads PARAM0 to PARAM11 as they stand when it is taken (R151, R156). -/

namespace Sys2Proof

/-- One row of the table of operations and events, each whole and indivisible (spec 95). -/
inductive Instr where
  /-- START (R17). -/
  | start
  /-- DRAIN (R18). -/
  | drain
  /-- DRAIN_COMPLETION (R19). -/
  | drainCompletion
  /-- HALT (R20). -/
  | halt
  /-- RESUME (R25). -/
  | resume
  /-- CLEAR_LINE (R26). -/
  | clearLine
  /-- SET_TIMEBASE (R11). -/
  | setTimebase
  /-- SET_POSITION (R14). -/
  | setPosition
  /-- SET_LANE (R29). -/
  | setLane
  /-- SET_STATION (R98). -/
  | setStation
  /-- SET_PROFILE (R103). -/
  | setProfile
  /-- SET_FREE_THRESHOLD (R73). -/
  | setFreeThreshold
  /-- READ_LANE (R47). -/
  | readLane
  /-- READ_STATION (R101). -/
  | readStation
  /-- READ_PROFILE (R104). -/
  | readProfile
  /-- READ_ITEM (R67). -/
  | readItem
  /-- READ_TIMEBASE (R13). -/
  | readTimebase
  /-- NEXT_DETECTION (R64). -/
  | nextDetection
  /-- NEXT_OUTCOME (R142). -/
  | nextOutcome
  /-- BACKLOG_PROMOTION (R71, R142). -/
  | backlogPromotion
  /-- VERDICT (R77). -/
  | verdict
  /-- PASS (R82). -/
  | pass
  /-- ABORT (R84). -/
  | abort
  /-- BAD_COMMAND (R153): the CMD write of `code`. -/
  | badCommand (code : Byte)
  /-- PARAM_WRITE (R151): the write of `data` to PARAM`n`. -/
  | paramWrite (n : Fin 12) (data : Byte)
  /-- REGISTER_WRITE (R150): a write cycle at location `addr`. -/
  | registerWrite (addr : BitVec 6) (data : Byte) (cycle : BusCycle)
  /-- POS0_READ (R15). -/
  | pos0Read
  /-- IRQ_FLAGS_WRITE (R166). -/
  | irqFlagsWrite (data : Byte)
  /-- IRQ_ENABLE_WRITE (R163). -/
  | irqEnableWrite (data : Byte)
  /-- RESET (R162): the pin is sampled low `lowSamples` times in a row. -/
  | reset (lowSamples : Nat)
  /-- TICK (R1): the pins as this tick samples them; bit n of `late` is set when the engine of station n takes this
  tick after the advance of the same tick (R1, R125). -/
  | tick (samples : PinSamples) (late : BitVec 8)
  /-- ENCODER_EDGE (R6): a qualified edge of the encoder filter. -/
  | encoderEdge (dir : EdgeDir)
  /-- RATE_COUNTDOWN_EXPIRY (R7). -/
  | rateCountdownExpiry
  /-- XSTOP_ACTIVE (R21). -/
  | xstopActive
  /-- XSTOP_INACTIVE (R4). -/
  | xstopInactive
  /-- LEAD_EDGE (R36). -/
  | leadEdge (lane : LaneNo)
  /-- TRAILING_EDGE (R40). -/
  | trailingEdge (lane : LaneNo)
  /-- JAM (R42). -/
  | jam (lane : LaneNo)
  /-- DEADLINE (R58): of the record that holds `tag`. -/
  | deadline (tag : Byte)
  /-- ARRIVAL (R121, R122). -/
  | arrival (station : StationNo)
  /-- OFF_POSITION_REACHED (R125). -/
  | offPositionReached (station : StationNo)
  /-- TIME_PULSE_END (R124). -/
  | timePulseEnd (station : StationNo)
  /-- MAX_ON_CUT (R125). -/
  | maxOnCut (station : StationNo)
  /-- RECOVERY_END (R127). -/
  | recoveryEnd (station : StationNo)
  /-- GUARD_MARK_REACHED (R111). -/
  | guardMarkReached (station : StationNo)
  /-- RESET_RELEASE (R162). -/
  | resetRelease
  deriving DecidableEq, Repr

end Sys2Proof
end

