-- ==== Sys2Proof/Decode.lean ====
section
/-! DEFINITION. Reading bytes as commands. No row of spec/opcode_table.json gives bits, so the host's table word spells
no command; the one decoding the spec has is that of a byte written to CMD (R152, R153, Table 9.2). -/

namespace Sys2Proof

/-- The command that a word spells by the table's bits: no row gives bits, so none. -/
def decodeTableWord (_nbits _w : Nat) : Option Instr := none

/-- The code of a mailbox command (Table 9.2). -/
def HostCommand.code : HostCommand → Byte
  | .start => 0x01
  | .drain => 0x02
  | .halt => 0x03
  | .resume => 0x04
  | .clearLine => 0x05
  | .setTimebase => 0x10
  | .setPosition => 0x11
  | .setLane => 0x12
  | .setStation => 0x13
  | .setProfile => 0x14
  | .setFreeThreshold => 0x15
  | .readLane => 0x20
  | .readStation => 0x21
  | .readProfile => 0x22
  | .readItem => 0x23
  | .readTimebase => 0x24
  | .nextDetection => 0x30
  | .nextOutcome => 0x31
  | .verdict => 0x40
  | .pass => 0x41
  | .abort => 0x42

/-- The rows of Table 9.2, in its order. -/
def hostCommands : List HostCommand :=
  [.start, .drain, .halt, .resume, .clearLine, .setTimebase, .setPosition, .setLane, .setStation, .setProfile,
   .setFreeThreshold, .readLane, .readStation, .readProfile, .readItem, .readTimebase, .nextDetection, .nextOutcome,
   .verdict, .pass, .abort]

/-- The command whose code equals a byte written to CMD, if Table 9.2 has one (R152, R153). -/
def HostCommand.ofCode (b : Byte) : Option HostCommand :=
  hostCommands.find? (fun c => c.code == b)

/-- The mailbox command a row stands for, when it is the CMD write of one. -/
def Instr.hostCommand : Instr → Option HostCommand
  | .start => some .start
  | .drain => some .drain
  | .halt => some .halt
  | .resume => some .resume
  | .clearLine => some .clearLine
  | .setTimebase => some .setTimebase
  | .setPosition => some .setPosition
  | .setLane => some .setLane
  | .setStation => some .setStation
  | .setProfile => some .setProfile
  | .setFreeThreshold => some .setFreeThreshold
  | .readLane => some .readLane
  | .readStation => some .readStation
  | .readProfile => some .readProfile
  | .readItem => some .readItem
  | .readTimebase => some .readTimebase
  | .nextDetection => some .nextDetection
  | .nextOutcome => some .nextOutcome
  | .verdict => some .verdict
  | .pass => some .pass
  | .abort => some .abort
  | .badCommand _ => none
  | .drainCompletion => none
  | .backlogPromotion => none
  | .paramWrite _ _ => none
  | .registerWrite _ _ _ => none
  | .pos0Read => none
  | .irqFlagsWrite _ => none
  | .irqEnableWrite _ => none
  | .reset _ => none
  | .tick _ _ => none
  | .encoderEdge _ => none
  | .rateCountdownExpiry => none
  | .xstopActive => none
  | .xstopInactive => none
  | .leadEdge _ => none
  | .trailingEdge _ => none
  | .jam _ => none
  | .deadline _ => none
  | .arrival _ => none
  | .offPositionReached _ => none
  | .timePulseEnd _ => none
  | .maxOnCut _ => none
  | .recoveryEnd _ => none
  | .guardMarkReached _ => none
  | .resetRelease => none

end Sys2Proof
end

