-- ==== Sys2Proof/Machine/State.lean ====
section
/-! DEFINITION. The state of the GT-408 as plain data: every register, list, record, counter and flag the spec names, each
once, and the queue of waiting commands. Views that other state determines (STAMP, the counts, the condition flags, the
pins, the interrupt request) are functions of it in Machine/Ops.lean and Machine/Flags.lean. -/

namespace Sys2Proof.Machine

/-- Why the part would stop. No rule of the spec stops it. -/
inductive Fault where
  /-- Raised by nobody: the spec gives every command an effect in every state (R154). Safe: it is never answered. -/
  | unreached
  deriving DecidableEq, Repr

/-- Why a command would have no meaning in this model. -/
inductive Refusal where
  /-- Raised by an arm of `exec` whose row has no meaning yet. Safe. No arm raises it. -/
  | notModelled (mnemonic : String)
  deriving DecidableEq, Repr

/-! ### Timebase (chapter 1) -/

/-- A level filter's qualified level Q and run count C (R2). -/
structure Filter where
  q : Level
  c : Nat
  deriving DecidableEq, Repr

/-- SOURCE of advance events (R10). -/
inductive Source where
  | encoder
  | internal
  deriving DecidableEq, Repr

/-- The timebase record, Table 1.3 (R10). -/
structure TimebaseRecord where
  source   : Source
  divider  : Half
  encDepth : Byte
  encEdge  : EdgeDir
  rate     : Half
  deriving DecidableEq, Repr

/-! ### Run control (chapter 2) -/

/-- The run state (R16). -/
inductive RunState where
  | idle
  | run
  | drain
  | halt
  deriving DecidableEq, Repr

/-- The halt cause (R24). -/
inductive HaltCause where
  | none
  | command
  | xstop
  deriving DecidableEq, Repr

/-! ### Lanes (chapter 3) -/

/-- Which pin level is the active one (R27, R97). -/
inductive Polarity where
  | activeHigh
  | activeLow
  deriving DecidableEq, Repr

/-- DEFAULT_KIND (R27). -/
inductive DefaultKind where
  | pass
  | eject
  deriving DecidableEq, Repr

/-- The six item fields and MIN_LENGTH of a lane record: what the detection snapshot copies (R27, R36). -/
structure ItemFields where
  minLength        : Half
  maxLength        : Half
  decisionDistance : Half
  defaultKind      : DefaultKind
  defaultStation   : StationNo
  defaultProfile   : ProfileNo
  defaultPriority  : Priority
  deriving DecidableEq, Repr

/-- The lane record, Table 3.1 (R27). -/
structure LaneRecord where
  enable   : Bool
  polarity : Polarity
  depth    : Byte
  item     : ItemFields
  deriving DecidableEq, Repr

/-- The lane state (R28). -/
inductive LaneState where
  | off
  | settling
  | clear
  | measuring
  | jammed
  | missing
  deriving DecidableEq, Repr

/-- The measurement of a MEASURING lane: the item, named by its tag, and the jam position (R28). -/
structure Measurement where
  tag : Byte
  jam : Pos
  deriving DecidableEq, Repr

/-- One lane: its record, the state of Table 3.2, its sensor filter, and the qualified edge its tick has made and the
lane has not taken yet (the model's own field, log 1). -/
structure Lane where
  record          : LaneRecord
  state           : LaneState
  polarity        : Polarity
  depth           : Byte
  settingsPending : Bool
  disablePending  : Bool
  measurement     : Option Measurement
  missed          : Byte
  filter          : Filter
  edge            : Option EdgeDir
  deriving DecidableEq, Repr

/-! ### Item table (chapter 4) -/

/-- The item state (R52, R54). -/
inductive ItemState where
  | measuring
  | pending
  | committed
  | firing
  | retired
  deriving DecidableEq, Repr

/-- Where a verdict came from (R52). -/
inductive VerdictSource where
  | commanded
  | defaulted
  deriving DecidableEq, Repr

/-- The VERDICT field of an item record (R52). -/
structure Verdict where
  source   : VerdictSource
  station  : StationNo
  profile  : ProfileNo
  priority : Priority
  deriving DecidableEq, Repr

/-- How an order's pulse ends: a width in ticks, or an off position (R106). -/
inductive Width where
  | time (ticks : Half)
  | span (offPos : Pos)
  deriving DecidableEq, Repr

/-- The ORDER field of an item record (R52, R107). -/
structure Order where
  onPos : Pos
  width : Width
  deriving DecidableEq, Repr

/-- The FIRING field of an item record: the fired on position and the on-ticks (R52). -/
structure Firing where
  onPos   : Pos
  onTicks : Half
  deriving DecidableEq, Repr

/-- The outcome codes of Table 8.1 (R136). -/
inductive OutcomeCode where
  | passed
  | defaultPassed
  | fired
  | firedCut
  | aborted
  | bumped
  | conflict
  | collided
  | missedWindow
  | unroutable
  | overlength
  | halted
  deriving DecidableEq, Repr

/-- An item record, Table 4.1 (R52). STAMP is computed from LEAD (R56). -/
structure ItemRecord where
  tag      : Byte
  lane     : LaneNo
  lead     : Pos
  state    : ItemState
  snapshot : ItemFields
  d        : Pos
  length   : Option Half
  verdict  : Option Verdict
  order    : Option Order
  firing   : Option Firing
  outcome  : Option OutcomeCode
  deriving DecidableEq, Repr

/-! ### Stations, profiles and engines (chapters 6 and 7) -/

/-- The station record, Table 6.1 (R97). -/
structure StationRecord where
  enable   : Bool
  polarity : Polarity
  lane     : LaneNo
  offset   : Half
  guard    : Half
  recovery : Half
  maxOn    : Half
  deriving DecidableEq, Repr

/-- WIDTH_KIND of a profile (R102). -/
inductive WidthKind where
  | time
  | span
  deriving DecidableEq, Repr

/-- The profile record, Table 6.3 (R102). LEAD_SHIFT and SPAN_EXTRA are two's complement. -/
structure Profile where
  leadShift : Half
  widthKind : WidthKind
  timeWidth : Half
  spanExtra : Half
  deriving DecidableEq, Repr

/-- The end rule of a pulse, Table 7.1 (R119). -/
inductive EndRule where
  | time (endCount width : Half)
  | span (offPos : Pos) (maxOn : Half)
  deriving DecidableEq, Repr

/-- What an engine holds while ON: the firing record, named by its tag, the end rule and the on-tick count (R119). -/
structure Pulse where
  tag     : Byte
  endRule : EndRule
  onTicks : Half
  deriving DecidableEq, Repr

/-- The engine state with what Table 7.1 gives each state (R119). -/
inductive Engine where
  | disabled
  | offReady
  | on (pulse : Pulse)
  | recovery (count : Half)
  deriving DecidableEq, Repr

/-- One station: record, list of committed orders (by tag, nearest first), guard mark (absent while invalid), engine; and
whether the engine still has to take the present tick (the model's own field, log 4). -/
structure Station where
  record    : StationRecord
  list      : List Byte
  guardMark : Option Pos
  engine    : Engine
  tickLate  : Bool
  deriving DecidableEq, Repr

/-! ### Outcome unit (chapter 8) -/

/-- An outcome record (R137): SOURCE and STATION, LENGTH, and FIRED_ON with ON_TICKS may be absent. -/
structure OutcomeRecord where
  tag     : Byte
  lane    : LaneNo
  outcome : OutcomeCode
  lead    : Pos
  verdict : Option (VerdictSource × StationNo)
  length  : Option Half
  firing  : Option Firing
  deriving DecidableEq, Repr

/-! ### Window (chapter 9) -/

/-- The result codes of Table 9.3 (R154). -/
inductive ResultCode where
  | ok
  | empty
  | state
  | param
  | unknown
  | stale
  | notReady
  | decided
  | late
  | wrongLane
  | stationOff
  | conflict
  | inProgress
  | busy
  | badCommand
  | stopped
  deriving DecidableEq, Repr

/-! ### The whole -/

/-- The state of the part. `items` is the item table as its age order: the records in live and backlog slots, oldest
first; a slot without a record is free (R50, R51, log 8). `advanceDue` and `xstopEdge` are the model's own: the last tick has
made an advance, or a change of the qualified XSTOP level, that has not been taken yet (log 1). -/
structure State where
  pending       : List Instr
  inReset       : Bool
  timebase      : TimebaseRecord
  divCount      : Half
  p             : Pos
  k             : Half
  encFilter     : Filter
  advanceDue    : Bool
  latchMid      : Byte
  latchHigh     : Byte
  run           : RunState
  haltCause     : HaltCause
  xstopFilter   : Filter
  xstopEdge     : Option EdgeDir
  lanes         : Vector Lane 4
  items         : List ItemRecord
  announce      : List Byte
  tc            : Byte
  freeThreshold : Byte
  stations      : Vector Station 8
  profiles      : Vector Profile 8
  queue         : List OutcomeRecord
  backlog       : List Byte
  laneAlert     : Bool
  haltEntered   : Bool
  drainDone     : Bool
  freeLow       : Bool
  backlogFlag   : Bool
  enables       : BitVec 7
  cmd           : Byte
  result        : ResultCode
  params        : Vector Byte 12
  reply         : Vector Byte 16
  readData      : Byte
  deriving DecidableEq, Repr

/-! ### Reset values -/

/-- A filter after reset: Q = LOW and C = 0 (R2). -/
def Filter.reset : Filter := ⟨.low, 0⟩

/-- Table 1.3 (R10). -/
def TimebaseRecord.reset : TimebaseRecord :=
  { source := .encoder, divider := 100, encDepth := 2, encEdge := .rising, rate := 10 }

/-- Table 3.1 (R27). -/
def LaneRecord.reset : LaneRecord :=
  { enable := false, polarity := .activeHigh, depth := 2,
    item := { minLength := 1, maxLength := 65534, decisionDistance := 65535, defaultKind := .pass,
              defaultStation := 0, defaultProfile := 0, defaultPriority := 7 } }

/-- Table 3.2 (R28). -/
def Lane.reset : Lane :=
  { record := LaneRecord.reset, state := .off, polarity := .activeHigh, depth := 2, settingsPending := false,
    disablePending := false, measurement := none, missed := 0, filter := Filter.reset, edge := none }

/-- Table 6.1 (R97). -/
def StationRecord.reset : StationRecord :=
  { enable := false, polarity := .activeHigh, lane := 0, offset := 1000, guard := 100, recovery := 0, maxOn := 1000 }

/-- R97, R108, R110, R119. -/
def Station.reset : Station :=
  { record := StationRecord.reset, list := [], guardMark := none, engine := .disabled, tickLate := false }

/-- Table 6.3 (R102). -/
def Profile.reset : Profile :=
  { leadShift := 0, widthKind := .time, timeWidth := 10, spanExtra := 0 }

/-- The state right after reset (R162, Table 9.11), with no command waiting. `readData` is the model's choice (log 10). -/
def State.reset : State :=
  { pending := [], inReset := false,
    timebase := TimebaseRecord.reset, divCount := 100, p := 0, k := 10,
    encFilter := Filter.reset, advanceDue := false, latchMid := 0, latchHigh := 0,
    run := .idle, haltCause := .none, xstopFilter := Filter.reset, xstopEdge := none,
    lanes := #v[Lane.reset, Lane.reset, Lane.reset, Lane.reset],
    items := [], announce := [], tc := 0, freeThreshold := 0,
    stations := #v[Station.reset, Station.reset, Station.reset, Station.reset,
                   Station.reset, Station.reset, Station.reset, Station.reset],
    profiles := #v[Profile.reset, Profile.reset, Profile.reset, Profile.reset,
                   Profile.reset, Profile.reset, Profile.reset, Profile.reset],
    queue := [], backlog := [],
    laneAlert := false, haltEntered := false, drainDone := false, freeLow := false, backlogFlag := false,
    enables := 0, cmd := 0, result := .ok,
    params := #v[0, 0, 0, 0, 0, 0, 0, 0, 0, 0, 0, 0],
    reply := #v[0, 0, 0, 0, 0, 0, 0, 0, 0, 0, 0, 0, 0, 0, 0, 0],
    readData := 0 }

end Sys2Proof.Machine
end

