-- ==== Sys2Proof/Machine/Ops.lean ====
section
/-! DEFINITION. The operations the meanings share: ahead distance, level filters, access to lanes, stations and records,
retirement and the outcome unit's acceptance, drain completion, halt entry, and how an event is taken. -/

namespace Sys2Proof.Machine

/-- What a step answers. -/
abbrev Answer := Host.Outcome State Fault Refusal

/-- The result code and the state a mailbox command leaves, before CMD and RESULT are written. -/
abbrev Reply := ResultCode × State

/-! ### Positions (R8) -/

/-- The ahead distance of `x` when P is `p` (R8). -/
def aheadDist (p x : Pos) : Nat := (x - p).toNat

/-- `x` is ahead of `p`: ahead distance 1 to 8,388,607 (R8). -/
def isAhead (p x : Pos) : Bool := decide (1 ≤ aheadDist p x) && decide (aheadDist p x ≤ 8388607)

/-- How far two ahead distances lie apart. -/
def distApart (a b : Nat) : Nat := (a - b) + (b - a)

/-! ### Levels and filters (R2, R30) -/

/-- The level an edge leads to (R2). -/
def edgeLevel : EdgeDir → Level
  | .rising => .high
  | .falling => .low

/-- The edge that leads to a level (R2). -/
def edgeTo : Level → EdgeDir
  | .high => .rising
  | .low => .falling

/-- One sample of a level filter of depth `n` (R2): the filter after the tick, and the qualified edge if one occurs. -/
def filterSample (f : Filter) (n : Nat) (sample : Level) : Filter × Option EdgeDir :=
  if sample = f.q then (⟨f.q, 0⟩, none)
  else if f.c + 1 < n then (⟨f.q, f.c + 1⟩, none)
  else (⟨sample, 0⟩, some (edgeTo sample))

/-- The filter once its level is `l`: a change of level leaves C at 0 (R2), and a filter already there is unchanged. -/
def filterAt (f : Filter) (l : Level) : Filter :=
  if f.q = l then f else ⟨l, 0⟩

/-- A new depth: C becomes 0 and Q is kept (R2). -/
def filterNewDepth (f : Filter) : Filter := ⟨f.q, 0⟩

/-- The level that reads active under a polarity (R30, R120). -/
def activeLevel : Polarity → Level
  | .activeHigh => .high
  | .activeLow => .low

/-- The level that reads inactive under a polarity (R30, R120). -/
def inactiveLevel : Polarity → Level
  | .activeHigh => .low
  | .activeLow => .high

/-- The qualified XSTOP level is active while Q is LOW (R4). -/
def State.xstopActive (s : State) : Bool := s.xstopFilter.q == .low

/-- The run state is RUN or DRAIN. -/
def State.running (s : State) : Bool := s.run == .run || s.run == .drain

/-! ### Lanes, stations, profiles -/

def allLanes : List LaneNo := [0, 1, 2, 3]

def allStations : List StationNo := [0, 1, 2, 3, 4, 5, 6, 7]

def State.lane (s : State) (l : LaneNo) : Lane := s.lanes[l.val]

def State.setLane (s : State) (l : LaneNo) (x : Lane) : State := { s with lanes := s.lanes.set l.val x }

def State.station (s : State) (n : StationNo) : Station := s.stations[n.val]

def State.setStation (s : State) (n : StationNo) (x : Station) : State :=
  { s with stations := s.stations.set n.val x }

def State.profile (s : State) (n : ProfileNo) : Profile := s.profiles[n.val]

def State.setProfile (s : State) (n : ProfileNo) (x : Profile) : State :=
  { s with profiles := s.profiles.set n.val x }

/-- The lane reads its level active: the filter's Q through the in-force polarity (R30). -/
def Lane.active (x : Lane) : Bool := x.filter.q == activeLevel x.polarity

/-! ### Records (R50 to R56) -/

/-- A record in state MEASURING, PENDING, COMMITTED or FIRING (R50). -/
def ItemRecord.isLive (r : ItemRecord) : Bool := r.state != .retired

/-- STAMP: the low 16 bits of LEAD (R56). -/
def ItemRecord.stamp (r : ItemRecord) : Half := r.lead.setWidth 16

/-- The free slots: 32 less the live and the backlog records (R50). -/
def State.freeCount (s : State) : Nat := Config.tableSlots - s.items.length

/-- The live or backlog record that holds a tag (R67). -/
def State.heldRecord (s : State) (t : Byte) : Option ItemRecord := s.items.find? (fun r => r.tag == t)

/-- The live record that holds a tag (R75). -/
def State.liveRecord (s : State) (t : Byte) : Option ItemRecord := s.items.find? (fun r => r.tag == t && r.isLive)

/-- AGE: a record's place in the age order, 0 for the oldest (R51). -/
def State.age (s : State) (t : Byte) : Nat := s.items.findIdx (fun r => r.tag == t)

/-- Some live record exists. -/
def State.hasLive (s : State) : Bool := s.items.any ItemRecord.isLive

/-- The record that holds `t`, changed in its slot. -/
def State.modifyRecord (s : State) (t : Byte) (f : ItemRecord → ItemRecord) : State :=
  { s with items := s.items.map (fun r => if r.tag = t then f r else r) }

/-- The slot of `t` becomes free: the tag is released and the record leaves the age order (R51, R55). -/
def State.freeSlot (s : State) (t : Byte) : State :=
  { s with items := s.items.filter (fun r => r.tag != t) }

/-- The reference to `t` leaves the announce list (R65). -/
def State.dropAnnounce (s : State) (t : Byte) : State :=
  { s with announce := s.announce.filter (· != t) }

/-- The order of `t` leaves the list of station `n` (R69, R109). -/
def State.dropOrder (s : State) (n : StationNo) (t : Byte) : State :=
  s.setStation n { s.station n with list := (s.station n).list.filter (· != t) }

/-! ### Outcomes and retirement (R69, R70, R137, R140) -/

/-- The outcome record formed from an item record retired with `code` (R137). -/
def outcomeOf (r : ItemRecord) (code : OutcomeCode) : OutcomeRecord :=
  { tag := r.tag, lane := r.lane, outcome := code, lead := r.lead,
    verdict := r.verdict.map (fun v => (v.source, v.station)), length := r.length, firing := r.firing }

/-- The queue has room and the backlog is empty (R140). -/
def State.queueTakes (s : State) : Bool := decide (s.queue.length < Config.queueDepth) && s.backlog.isEmpty

/-- The outcome unit accepts the retirement of `r` with `code` (R140): its outcome record enters the queue and its slot is
free at once, or it stays in its slot as RETIRED and joins the tail of the backlog (R70). BACKLOG is set when the backlog
was empty (R170). -/
def State.accept (s : State) (r : ItemRecord) (code : OutcomeCode) : State :=
  if s.queueTakes then
    { s.freeSlot r.tag with queue := s.queue ++ [outcomeOf r code] }
  else
    { s.modifyRecord r.tag (fun x => { x with state := .retired, outcome := some code }) with
      backlog := s.backlog ++ [r.tag],
      backlogFlag := s.backlogFlag || s.backlog.isEmpty }

/-- The order of a COMMITTED record leaves the list of the station its VERDICT names (R69, R108). -/
def State.dropListed (s : State) (r : ItemRecord) : State :=
  match r.state, r.verdict with
  | .committed, some v => s.dropOrder v.station r.tag
  | _, _ => s

/-- The retirement of the live record that holds `t` (R69): off the announce list, off its station list, and handed to the
outcome unit with its code. No live record, no retirement (R70). The drain completion check is `drainCheck`, made when
the event that ends the record has done all its work (R19). -/
def retire (t : Byte) (code : OutcomeCode) (s : State) : State :=
  match s.liveRecord t with
  | none => s
  | some r => ((s.dropAnnounce t).dropListed r).accept r code

/-! ### Lanes go OFF, drain completion (R19, R48) -/

/-- A lane at IDLE or HALT entry (R48): OFF, disable pending 0, the measurement dropped; settings pending, the record, the
missed counter and the filter are kept. -/
def Lane.toOff (x : Lane) : Lane :=
  { x with state := .off, disablePending := false, measurement := none }

/-- Every lane goes OFF (R48). -/
def lanesOff (s : State) : State := { s with lanes := s.lanes.map Lane.toOff }

/-- Drain completion (R19). An advance of this tick not taken yet is discarded in IDLE (R6). -/
def drainComplete (s : State) : State :=
  { lanesOff s with run := .idle, drainDone := true, advanceDue := false }

/-- The drain completion check (R19): in DRAIN with no live record the drain is complete. -/
def drainCheck (s : State) : State :=
  if s.run = .drain ∧ s.hasLive = false then drainComplete s else s

/-- A retirement followed by the drain completion check (R70). -/
def retireAndCheck (t : Byte) (code : OutcomeCode) (s : State) : State := drainCheck (retire t code s)

/-! ### Halt entry (R22, R117, R129) -/

/-- An engine at a halt entry (R129): ON and RECOVERY become OFF_READY, DISABLED and OFF_READY are unchanged. -/
def Engine.atHalt : Engine → Engine
  | .disabled => .disabled
  | .offReady => .offReady
  | .on _ => .offReady
  | .recovery _ => .offReady

/-- A station at a halt entry: empty list, invalid guard mark, engine by R129 (R22, R117). A tick the engine had still to
take finds it OFF_READY and does nothing (R129). -/
def Station.atHalt (x : Station) : Station :=
  { x with list := [], guardMark := none, engine := x.engine.atHalt, tickLate := false }

/-- Halt entry (R22): the run state and the cause; every live record retires HALTED, oldest first; the engines, the lists
and the guard marks; the lanes; HALT_ENTERED. No drain completion check is made. An advance of this tick not taken yet is discarded (R6). -/
def haltEntry (cause : HaltCause) (s : State) : State :=
  let s1 : State := { s with run := .halt, haltCause := cause }
  let live := (s1.items.filter ItemRecord.isLive).map ItemRecord.tag
  let s2 := live.foldl (fun a t => retire t .halted a) s1
  let s3 : State := { s2 with stations := s2.stations.map Station.atHalt }
  { lanesOff s3 with haltEntered := true, advanceDue := false }

/-! ### Refusals and events -/

/-- A refused command: the result code, and no state changed (R76, R154). -/
def refuse (code : ResultCode) (s : State) : Reply := (code, s)

/-- An event of the bus, the belt or the clock: none is taken while the part is held in reset (R162). -/
def event (f : State → State) (s : State) : State := if s.inReset then s else f s

end Sys2Proof.Machine
end

