-- ==== Sys2Proof/Machine/Operands.lean ====
section
/-! DEFINITION. The parameter layouts of Table 9.4 with their ranges (R155, R156), and the reply layouts of Tables 9.6 to
9.9 (R157 to R160). -/

namespace Sys2Proof.Machine

/-! ### Codes -/

/-- The values of Table 9.3 (R154). -/
def ResultCode.code : ResultCode → Byte
  | .ok => 0x00
  | .empty => 0x01
  | .state => 0x02
  | .param => 0x03
  | .unknown => 0x04
  | .stale => 0x05
  | .notReady => 0x06
  | .decided => 0x07
  | .late => 0x08
  | .wrongLane => 0x09
  | .stationOff => 0x0A
  | .conflict => 0x0B
  | .inProgress => 0x0C
  | .busy => 0x0D
  | .badCommand => 0x0E
  | .stopped => 0x0F

/-- The values of Table 9.7 (R158). -/
def OutcomeCode.code : OutcomeCode → Byte
  | .passed => 0x01
  | .defaultPassed => 0x02
  | .fired => 0x03
  | .firedCut => 0x04
  | .aborted => 0x05
  | .bumped => 0x06
  | .conflict => 0x07
  | .collided => 0x08
  | .missedWindow => 0x09
  | .unroutable => 0x0A
  | .overlength => 0x0B
  | .halted => 0x0C

/-- STATE in the item reply, Table 9.8 (R159). -/
def ItemState.code : ItemState → Byte
  | .measuring => 0x00
  | .pending => 0x01
  | .committed => 0x02
  | .firing => 0x03
  | .retired => 0x04

/-- The lane state in the lane reply, Table 9.9 (R160). -/
def LaneState.code : LaneState → Byte
  | .off => 0x00
  | .settling => 0x01
  | .clear => 0x02
  | .measuring => 0x03
  | .jammed => 0x04
  | .missing => 0x05

/-- The engine state in the station reply, Table 9.9 (R160). -/
def Engine.code : Engine → Byte
  | .disabled => 0x00
  | .offReady => 0x01
  | .on _ => 0x02
  | .recovery _ => 0x03

def Source.code : Source → Byte
  | .encoder => 0x00
  | .internal => 0x01

def edgeDirCode : EdgeDir → Byte
  | .rising => 0x00
  | .falling => 0x01

def WidthKind.code : WidthKind → Byte
  | .time => 0x00
  | .span => 0x01

def Polarity.bit : Polarity → Nat
  | .activeHigh => 0
  | .activeLow => 1

def DefaultKind.bit : DefaultKind → Nat
  | .pass => 0
  | .eject => 1

def VerdictSource.bit : VerdictSource → Nat
  | .commanded => 0
  | .defaulted => 1

/-! ### Reading parameters (R155) -/

/-- The parameter bytes as they stand. -/
abbrev Params := Vector Byte 12

/-- Two consecutive bytes, the low byte in the lower-numbered one (R155). -/
def halfOf (lo hi : Byte) : Half := (hi ++ lo : BitVec (8 + 8))

/-- Three consecutive bytes, low byte first (R155). -/
def posOf (lo mid hi : Byte) : Pos := (hi ++ (mid ++ lo : BitVec (8 + 8)) : BitVec (8 + (8 + 8)))

/-- An index byte in 0 to n − 1 (R155). -/
def indexOf (n : Nat) (b : Byte) : Option (Fin n) :=
  if h : b.toNat < n then some ⟨b.toNat, h⟩ else none

/-- A value within its range, or none. -/
def within (lo hi : Nat) {w : Nat} (b : BitVec w) : Option (BitVec w) :=
  if lo ≤ b.toNat ∧ b.toNat ≤ hi then some b else none

/-- A signed field, −2,048 to +2,047 in 16-bit two's complement (R155). -/
def signedField (w : Half) : Option Half :=
  if -2048 ≤ w.toInt ∧ w.toInt ≤ 2047 then some w else none

/-- A selection byte: 0x00 or 0x01, every other value names no choice (R155). -/
def selection {α : Type} (zero one : α) (b : Byte) : Option α :=
  if b = 0 then some zero else if b = 1 then some one else none

/-- The polarity a control byte's bit 1 names (Table 9.4). -/
def polarityOf (b : Byte) : Polarity := if b.getLsbD 1 then .activeLow else .activeHigh

/-- The parameters of SET_TIMEBASE (R11, R156); none when one is out of range. -/
def timebaseOf (ps : Params) : Option TimebaseRecord := do
  let source ← selection Source.encoder Source.internal ps[0]
  let divider ← within 1 4096 (halfOf ps[1] ps[2])
  let encDepth ← within 1 15 ps[3]
  let encEdge ← selection EdgeDir.rising EdgeDir.falling ps[4]
  let rate ← within 1 65535 (halfOf ps[5] ps[6])
  return { source, divider, encDepth, encEdge, rate }

/-- The parameter of SET_POSITION (R14): every value is accepted. -/
def positionOf (ps : Params) : Pos := posOf ps[0] ps[1] ps[2]

/-- The parameters of SET_LANE (R29, R156); none when a check fails. -/
def laneOf (ps : Params) : Option (LaneNo × LaneRecord) := do
  let lane ← indexOf 4 ps[0]
  let control ← within 0 7 ps[1]
  let depth ← within 1 15 ps[2]
  let minLength ← within 1 65535 (halfOf ps[3] ps[4])
  let maxLength ← within minLength.toNat 65535 (halfOf ps[5] ps[6])
  let decisionDistance ← within (maxLength.toNat + 1) 65535 (halfOf ps[7] ps[8])
  let defaultStation ← indexOf 8 ps[9]
  let defaultProfile ← indexOf 8 ps[10]
  let defaultPriority ← indexOf 8 ps[11]
  return (lane,
    { enable := control.getLsbD 0, polarity := polarityOf control, depth,
      item := { minLength, maxLength, decisionDistance,
                defaultKind := if control.getLsbD 2 then .eject else .pass,
                defaultStation, defaultProfile, defaultPriority } })

/-- The parameters of SET_STATION (R98, R156); none when one is out of range. -/
def stationOf (ps : Params) : Option (StationNo × StationRecord) := do
  let n ← indexOf 8 ps[0]
  let control ← within 0 3 ps[1]
  let lane ← indexOf 4 ps[2]
  let offset ← within 1 65535 (halfOf ps[3] ps[4])
  let guard ← within 1 65535 (halfOf ps[5] ps[6])
  let maxOn ← within 1 65535 (halfOf ps[9] ps[10])
  return (n,
    { enable := control.getLsbD 0, polarity := polarityOf control, lane, offset, guard,
      recovery := halfOf ps[7] ps[8], maxOn })

/-- The parameters of SET_PROFILE (R103, R156); none when one is out of range. -/
def profileOf (ps : Params) : Option (ProfileNo × Profile) := do
  let n ← indexOf 8 ps[0]
  let widthKind ← selection WidthKind.time WidthKind.span ps[1]
  let leadShift ← signedField (halfOf ps[2] ps[3])
  let timeWidth ← within 1 65535 (halfOf ps[4] ps[5])
  let spanExtra ← signedField (halfOf ps[6] ps[7])
  return (n, { leadShift, widthKind, timeWidth, spanExtra })

/-- The parameter of SET_FREE_THRESHOLD (R73). -/
def thresholdOf (ps : Params) : Option Byte := within 0 31 ps[0]

/-- The wire key of a verdict command: tag and stamp (R75, R156). -/
def keyOf (ps : Params) : Byte × Half := (ps[0], halfOf ps[1] ps[2])

/-- Station, profile and priority of VERDICT (R78, R156); none when one lies outside 0 to 7. -/
def verdictOf (ps : Params) : Option Verdict := do
  let station ← indexOf 8 ps[3]
  let profile ← indexOf 8 ps[4]
  let priority ← indexOf 8 ps[5]
  return { source := .commanded, station, profile, priority }

/-! ### Writing replies (R157) -/

/-- A 16-bit field, low byte first. -/
def halfBytes (w : Half) : List Byte := [w.extractLsb' 0 8, w.extractLsb' 8 8]

/-- A 24-bit field, low byte first. -/
def posBytes (x : Pos) : List Byte := [x.extractLsb' 0 8, x.extractLsb' 8 8, x.extractLsb' 16 8]

/-- The sixteen bytes of a reply: the bytes of its layout, and 0x00 for every other (R157). -/
def replyOf (bytes : List Byte) : Vector Byte 16 :=
  ⟨((bytes ++ List.replicate 16 0).take 16).toArray, by simp⟩

/-- A byte made of numbered bits or small fields, given as a number below 256. -/
def packed (n : Nat) : Byte := BitVec.ofNat 8 n

/-- An absent 16-bit field is written as 0x00 bytes (R157). -/
def halfBytesOr (w : Option Half) : List Byte := halfBytes (w.getD 0)

/-- Detection reply, Table 9.6 (R158). -/
def detectionReply (r : ItemRecord) : Vector Byte 16 :=
  replyOf ([r.tag, packed r.lane.val] ++ posBytes r.lead ++ halfBytes r.stamp ++ halfBytesOr r.length)

/-- The presence byte of an outcome record (R138, Table 9.6). -/
def outcomePresence (o : OutcomeRecord) : Byte :=
  packed (o.verdict.isSome.toNat + 2 * o.length.isSome.toNat + 4 * o.firing.isSome.toNat)

/-- Outcome reply, Table 9.6 (R158). -/
def outcomeReply (o : OutcomeRecord) : Vector Byte 16 :=
  replyOf ([o.tag, packed o.lane.val, o.outcome.code, outcomePresence o] ++ posBytes o.lead ++
    [match o.verdict with
     | some (source, station) => packed (station.val + 128 * source.bit)
     | none => 0] ++
    halfBytesOr o.length ++
    (match o.firing with
     | some f => posBytes f.onPos ++ halfBytes f.onTicks
     | none => []))

/-- The presence byte of an item reply (R159, Table 9.8). -/
def itemPresence (r : ItemRecord) : Byte :=
  packed (r.verdict.isSome.toNat + 2 * r.length.isSome.toNat + 4 * r.order.isSome.toNat + 8 * r.firing.isSome.toNat +
    16 * r.outcome.isSome.toNat)

/-- Position of interest: the on position of ORDER once there is one, otherwise D (R67). -/
def positionOfInterest (r : ItemRecord) : Pos :=
  match r.order with
  | some o => o.onPos
  | none => r.d

/-- Item reply, Table 9.8 (R159). -/
def itemReply (r : ItemRecord) (age : Nat) : Vector Byte 16 :=
  replyOf ([r.tag, packed r.lane.val, r.state.code, packed age, itemPresence r] ++ posBytes r.lead ++
    halfBytesOr r.length ++ posBytes (positionOfInterest r) ++
    (match r.verdict with
     | some v => [packed (v.station.val + 128 * v.source.bit), packed (v.profile.val + 16 * v.priority.val)]
     | none => [0, 0]) ++
    [match r.outcome with
     | some c => c.code
     | none => 0])

/-- The control byte of a lane record, as PARAM1 of SET_LANE (R160). -/
def laneControl (r : LaneRecord) : Byte :=
  packed (r.enable.toNat + 2 * r.polarity.bit + 4 * r.item.defaultKind.bit)

/-- Lane reply, Table 9.9 (R160). -/
def laneReply (l : LaneNo) (x : Lane) : Vector Byte 16 :=
  replyOf ([laneControl x.record, x.record.depth] ++ halfBytes x.record.item.minLength ++
    halfBytes x.record.item.maxLength ++ halfBytes x.record.item.decisionDistance ++
    [packed x.record.item.defaultStation.val, packed x.record.item.defaultProfile.val,
     packed x.record.item.defaultPriority.val, x.state.code, x.missed,
     packed (x.disablePending.toNat + 2 * x.settingsPending.toNat + 4 * x.active.toNat), packed l.val])

/-- The control byte of a station record, as PARAM1 of SET_STATION (R160). -/
def stationControl (r : StationRecord) : Byte := packed (r.enable.toNat + 2 * r.polarity.bit)

/-- Station reply, Table 9.9 (R160). An invalid guard mark reports position 0 (R101). -/
def stationReply (x : Station) : Vector Byte 16 :=
  replyOf ([stationControl x.record, packed x.record.lane.val] ++ halfBytes x.record.offset ++ halfBytes x.record.guard ++
    halfBytes x.record.recovery ++ halfBytes x.record.maxOn ++
    [x.engine.code, packed x.list.length, packed x.guardMark.isSome.toNat] ++ posBytes (x.guardMark.getD 0))

/-- Profile reply, Table 9.9 (R160). -/
def profileReply (n : ProfileNo) (x : Profile) : Vector Byte 16 :=
  replyOf ([x.widthKind.code] ++ halfBytes x.leadShift ++ halfBytes x.timeWidth ++ halfBytes x.spanExtra ++
    [packed n.val])

/-- Timebase reply, Table 9.9 (R160). -/
def timebaseReply (x : TimebaseRecord) : Vector Byte 16 :=
  replyOf ([x.source.code] ++ halfBytes x.divider ++ [x.encDepth, edgeDirCode x.encEdge] ++ halfBytes x.rate)

end Sys2Proof.Machine
end

