-- ==== Sys2Proof/Machine/Flags.lean ====
section
/-! DEFINITION. The interrupt flags and the request (chapter 10), the output pins (R120, R134), STATUS (R161), and what a
read of each location of the register window returns (Table 9.1, R150). -/

namespace Sys2Proof.Machine

/-! ### Flags, enables and the request (R163 to R166) -/

/-- DETECTION_READY follows the announce list (R165). -/
def State.detectionReady (s : State) : Bool := !s.announce.isEmpty

/-- OUTCOME_READY follows the outcome queue (R165). -/
def State.outcomeReady (s : State) : Bool := !s.queue.isEmpty

/-- The seven flags at their bit positions (R161, Table 9.10). -/
def State.flagBits (s : State) : BitVec 7 :=
  BitVec.ofNat 7 (s.detectionReady.toNat + 2 * s.outcomeReady.toNat + 4 * s.laneAlert.toNat + 8 * s.haltEntered.toNat +
    16 * s.drainDone.toNat + 32 * s.freeLow.toNat + 64 * s.backlogFlag.toNat)

/-- The interrupt request: some flag and its enable are both 1, and the part is not held in reset (R164, R162). -/
def State.interruptRequest (s : State) : Bool := !s.inReset && (s.flagBits &&& s.enables != 0)

/-- Some lane is JAMMED: the hold condition of LANE_ALERT (R166, R167). -/
def State.someJammed (s : State) : Bool := allLanes.any (fun l => (s.lane l).state == .jammed)

/-- The free count is below the threshold: the hold condition of FREE_LOW (R166, R169). -/
def State.freeBelow (s : State) : Bool := decide (s.freeCount < s.freeThreshold.toNat)

/-- A write of IRQ_FLAGS (R166): each sticky flag whose bit is 1 is cleared, unless its hold condition stands. -/
def writeFlags (b : Byte) (s : State) : State :=
  { s with
    laneAlert := s.laneAlert && (!b.getLsbD 2 || s.someJammed),
    haltEntered := s.haltEntered && !b.getLsbD 3,
    drainDone := s.drainDone && !b.getLsbD 4,
    freeLow := s.freeLow && (!b.getLsbD 5 || s.freeBelow),
    backlogFlag := s.backlogFlag && (!b.getLsbD 6 || !s.backlog.isEmpty) }

/-- A write of IRQ_ENABLE stores bits 0 to 6 (R163). -/
def writeEnables (b : Byte) (s : State) : State := { s with enables := b.setWidth 7 }

/-! ### Pins -/

/-- The engine is ON. -/
def Engine.isOn : Engine → Bool
  | .on _ => true
  | .disabled => false
  | .offReady => false
  | .recovery _ => false

/-- The level of a station's ejector pin: the active level while the engine is ON, else the inactive level (R120,
Table 7.2). -/
def Station.pinLevel (x : Station) : Level :=
  if x.engine.isOn then activeLevel x.record.polarity else inactiveLevel x.record.polarity

/-- The level of EJn: low while the part is held in reset (R119, R162), else by R120. -/
def State.outputPin (s : State) (n : StationNo) : Level :=
  if s.inReset then .low else (s.station n).pinLevel

/-- OUTPUT_LEVELS: bit n is 1 while EJn is high (R134). -/
def State.outputLevels (s : State) : Byte :=
  packed (allStations.foldl (fun a n => a + if s.outputPin n = .high then 2 ^ n.val else 0) 0)

/-! ### STATUS and the read side of the window -/

def RunState.code : RunState → Nat
  | .idle => 0
  | .run => 1
  | .drain => 2
  | .halt => 3

def HaltCause.code : HaltCause → Nat
  | .none => 0
  | .command => 1
  | .xstop => 2

/-- STATUS (R161, Table 9.10). -/
def State.status (s : State) : Byte :=
  packed (s.run.code + 4 * s.xstopActive.toNat + 16 * s.haltCause.code)

/-- What a read of a location returns (R150, Table 9.1). A read of POS0 also loads the position latch: that is the row
POS0_READ. -/
def State.readLocation (s : State) (addr : BitVec 6) : Byte :=
  let a := addr.toNat
  if a = 0x00 then s.cmd
  else if a = 0x01 then s.result.code
  else if h : 0x02 ≤ a ∧ a ≤ 0x0D then s.params[a - 2]
  else if a = 0x0E then s.status
  else if a = 0x0F then s.flagBits.setWidth 8
  else if a = 0x10 then s.enables.setWidth 8
  else if a = 0x11 then s.p.extractLsb' 0 8
  else if a = 0x12 then s.latchMid
  else if a = 0x13 then s.latchHigh
  else if a = 0x14 then packed s.freeCount
  else if a = 0x15 then packed s.announce.length
  else if a = 0x16 then packed s.queue.length
  else if a = 0x17 then s.outputLevels
  else if h : 0x20 ≤ a ∧ a ≤ 0x2F then s.reply[a - 32]
  else 0

/-! ### The data lines (R149, R162) -/

/-- A read with CS and RD low and WR high, a write cycle with CS and WR low and RD high; neither while CS is high, nor while RD
and WR are low together (R149). -/
def accessKind (x : Strobes) : AccessKind :=
  if x.cs = .high then .none
  else if x.rd = .low ∧ x.wr = .high then .read
  else if x.rd = .high ∧ x.wr = .low then .write
  else .none

/-- What the part drives on D0 to D7 at one moment (R149, R162): the byte of the location addressed when the read was taken, as
the state `start` at that moment gave it, while the strobes still show the read, whatever has changed since; nothing in a write
cycle, while CS is high, while RD and WR are low together, and while the part is held in reset. `start` stands after what a tick
before the read has made (log 10). -/
def dataLines (start now : State) (addr : BitVec 6) (x : Strobes) : Option Byte :=
  if start.inReset ∨ now.inReset then none
  else if accessKind x = .read then some (start.readLocation addr)
  else none

end Sys2Proof.Machine
end

