-- ==== Sys2Proof/Machine/Stations.lean ====
section
/-! DEFINITION. Chapter 6: order computation, the arbitration and the placement with bumps, the guard mark, the row
GUARD_MARK_REACHED, and the work of SET_STATION, READ_STATION, SET_PROFILE and READ_PROFILE. -/

namespace Sys2Proof.Machine

/-! ### Computing an order (R105, R106) -/

/-- The on position: LEAD + OFFSET + LEAD_SHIFT mod 2^24 (R105). -/
def onPosition (lead : Pos) (offset leadShift : Half) : Pos :=
  lead + offset.setWidth 24 + leadShift.signExtend 24

/-- The span S: LENGTH + SPAN_EXTRA when that sum is 1 or more, else 1 (R106). -/
def spanOf (length spanExtra : Half) : Nat := max ((length.toNat : Int) + spanExtra.toInt).toNat 1

/-- The order of an item at a station with a profile (R105, R106). -/
def computeOrder (lead : Pos) (length : Half) (offset : Half) (f : Profile) : Order :=
  let on := onPosition lead offset f.leadShift
  { onPos := on,
    width := match f.widthKind with
      | .time => .time f.timeWidth
      | .span => .span (on + BitVec.ofNat 24 (spanOf length f.spanExtra)) }

/-- The order a verdict gives a record, from the record, the station record and the profile as they stand (R79, R60). A
PENDING record always has its LENGTH. -/
def State.orderFor (s : State) (r : ItemRecord) (v : Verdict) : Order :=
  computeOrder r.lead (r.length.getD 0) (s.station v.station).record.offset (s.profile v.profile)

/-! ### Arbitration (R112, R113) -/

/-- The on position of the order that the record of `t` holds. -/
def State.onPosOf (s : State) (t : Byte) : Option Pos := (s.heldRecord t).bind (fun r => r.order.map Order.onPos)

/-- N conflicts with the engine: the guard mark is valid and N is not ahead of it (R112 step 1). -/
def State.engineConflict (s : State) (n : StationNo) (on : Pos) : Bool :=
  match (s.station n).guardMark with
  | some mark => !decide (aheadDist s.p mark < aheadDist s.p on)
  | none => false

/-- The order of the COMMITTED record `r` is in the list of station `n` and less than GUARD from N (R108, R112 step 2). -/
def State.conflictsAt (s : State) (n : StationNo) (on : Pos) (r : ItemRecord) : Bool :=
  (r.state == .committed && (s.station n).list.contains r.tag) &&
    match r.order with
    | some o => decide (distApart (aheadDist s.p on) (aheadDist s.p o.onPos) < (s.station n).record.guard.toNat)
    | none => false

/-- N, of the item `t` with priority `prio`, is stronger than the listed order of `x` (R113). -/
def State.stronger (s : State) (t : Byte) (prio : Priority) (x : ItemRecord) : Bool :=
  match x.verdict with
  | some v => decide (prio < v.priority) || (decide (prio = v.priority) && decide (s.age t < s.age x.tag))
  | none => true

/-- The arbitration of N at station `n` (R112): refused (none), or won with the tags of the orders N bumps, oldest first
(R114 step 1: the age order). -/
def State.arbitrate (s : State) (t : Byte) (v : Verdict) (on : Pos) : Option (List Byte) :=
  if s.engineConflict v.station on then none
  else
    let xs := s.items.filter (s.conflictsAt v.station on)
    if xs.all (s.stronger t v.priority) then some (xs.map ItemRecord.tag) else none

/-! ### Placement and commit (R114, R81, R60) -/

/-- The listed order of `x` is nearer than the position `on` (R108). -/
def State.nearer (s : State) (on : Pos) (x : Byte) : Bool :=
  match s.onPosOf x with
  | some o => decide (aheadDist s.p o < aheadDist s.p on)
  | none => true

/-- The order of `t` is inserted by ahead distance: after the last order nearer than it and before the first one farther
(R114 step 2). -/
def State.insertOrder (s : State) (n : StationNo) (t : Byte) (on : Pos) : State :=
  let x := s.station n
  s.setStation n { x with list := x.list.takeWhile (s.nearer on) ++ t :: x.list.dropWhile (s.nearer on) }

/-- Each bumped record retires BUMPED, one after the other, each with its drain completion check (R114 step 1). -/
def bumpAll (tags : List Byte) (s : State) : State := tags.foldl (fun a t => retireAndCheck t .bumped a) s

/-- The commit (R81, R60 step 4): off the announce list, inserted in the station list, VERDICT and ORDER taken, COMMITTED. -/
def commit (t : Byte) (v : Verdict) (o : Order) (s : State) : State :=
  ((s.dropAnnounce t).insertOrder v.station t o.onPos).modifyRecord t
    (fun r => { r with verdict := some v, order := some o, state := .committed })

/-- A placement that won: bumps, then the commit (R114). -/
def place (t : Byte) (v : Verdict) (o : Order) (bumped : List Byte) (s : State) : State :=
  commit t v o (bumpAll bumped s)

/-! ### Guard marks (R110, R111) -/

/-- The advance reached the valid guard mark of station `n`: it becomes invalid (R111). -/
def takeGuardMark (n : StationNo) (s : State) : State :=
  if (s.station n).guardMark = some s.p then s.setStation n { s.station n with guardMark := none } else s

/-! ### The rows -/

/-- The station is busy: its list holds an order, or its engine is ON or in RECOVERY (R98). -/
def Station.busy (x : Station) : Bool :=
  !x.list.isEmpty ||
    match x.engine with
    | .on _ => true
    | .recovery _ => true
    | .disabled => false
    | .offReady => false

/-- The engine after a SET_STATION that is taken (R99): the engine is DISABLED or OFF_READY before. -/
def Engine.withEnable (e : Engine) (enable : Bool) : Engine :=
  match e, enable with
  | .disabled, true => .offReady
  | .disabled, false => .disabled
  | .offReady, false => .disabled
  | .offReady, true => .offReady
  | .on q, _ => .on q
  | .recovery c, _ => .recovery c

/-- SET_STATION (R98, R99, R100). The pin follows the new polarity (R120), the guard mark is kept. -/
def doSetStation (s : State) : Reply :=
  match stationOf s.params with
  | none => refuse .param s
  | some (n, r) =>
    let x := s.station n
    if x.busy then refuse .busy s
    else (.ok, s.setStation n { x with record := r, engine := x.engine.withEnable r.enable })

/-- READ_STATION (R101). -/
def doReadStation (s : State) : Reply :=
  match indexOf 8 s.params[0] with
  | none => refuse .param s
  | some n => (.ok, { s with reply := stationReply (s.station n) })

/-- SET_PROFILE (R103). -/
def doSetProfile (s : State) : Reply :=
  match profileOf s.params with
  | none => refuse .param s
  | some (n, f) => (.ok, s.setProfile n f)

/-- READ_PROFILE (R104). -/
def doReadProfile (s : State) : Reply :=
  match indexOf 8 s.params[0] with
  | none => refuse .param s
  | some n => (.ok, { s with reply := profileReply n (s.profile n) })

/-- GUARD_MARK_REACHED (R111). -/
def execGuardMarkReached (n : StationNo) (s : State) : Answer := .next (event (takeGuardMark n) s)

end Sys2Proof.Machine
end

