-- ==== Sys2Proof/Machine/Engines.lean ====
section
/-! DEFINITION. Chapter 7: how an engine takes a tick, an arrival, and the end of a pulse or of a recovery, and the rows
ARRIVAL, OFF_POSITION_REACHED, TIME_PULSE_END, MAX_ON_CUT and RECOVERY_END. -/

namespace Sys2Proof.Machine

/-! ### Ticks (R123, R127) -/

/-- One more on-tick; at 65,535 the count stays (R123). -/
def satInc (c : Half) : Half := if c = 65535 then c else c + 1

/-- The engine of station `n` takes a tick: ON counts an on-tick and the record's FIRING follows (R123); RECOVERY counts
down (R127); DISABLED and OFF_READY do nothing. -/
def engineTick (n : StationNo) (s : State) : State :=
  let x := s.station n
  match x.engine with
  | .on q =>
    let c := satInc q.onTicks
    (s.setStation n { x with engine := .on { q with onTicks := c } }).modifyRecord q.tag
      (fun r => { r with firing := r.firing.map (fun f => { f with onTicks := c }) })
  | .recovery c => s.setStation n { x with engine := .recovery (c - 1) }
  | .disabled => s
  | .offReady => s

/-- The engine of station `n` takes the tick it has still to take, if there is one (log 4). -/
def takeLateTick (n : StationNo) (s : State) : State :=
  if (s.station n).tickLate then
    engineTick n (s.setStation n { s.station n with tickLate := false })
  else s

/-! ### The pulse end (R126) -/

/-- The engine after a pulse: RECOVERY when the station's RECOVERY is 1 or more, else OFF_READY (R126 step 3). -/
def Station.afterPulse (x : Station) : Engine :=
  if x.record.recovery = 0 then .offReady else .recovery x.record.recovery

/-- The end of the pulse of the record `t` at station `n` with outcome `code` (R126). The recovery starts with the tick
after this one, so no tick is left for the engine to take (R127). -/
def pulseEnd (n : StationNo) (t : Byte) (code : OutcomeCode) (s : State) : State :=
  let x := s.station n
  retireAndCheck t code (s.setStation n { x with engine := x.afterPulse, tickLate := false })

/-- The on-tick count has reached the end count of a TIME pulse (R124): FIRED when the end count is the order's width, that is
when the width is not above MAX_ON, else FIRED_CUT. -/
def takeTimePulseEnd (n : StationNo) (s : State) : State :=
  match (s.station n).engine with
  | .on ⟨t, .time endCount width, c⟩ =>
    if c = endCount then pulseEnd n t (if width = endCount then .fired else .firedCut) s else s
  | _ => s

/-- The on-tick count of a SPAN pulse has reached MAX_ON (R125). -/
def takeMaxOnCut (n : StationNo) (s : State) : State :=
  match (s.station n).engine with
  | .on ⟨t, .span _ maxOn, c⟩ => if c = maxOn then pulseEnd n t .firedCut s else s
  | _ => s

/-- The off position of a SPAN pulse is reached (R125): FIRED. When the engine has already taken the tick that brings the
count to MAX_ON, that tick came first and the pulse ends FIRED_CUT. -/
def takeOffPosition (n : StationNo) (s : State) : State :=
  match (s.station n).engine with
  | .on ⟨t, .span offPos maxOn, c⟩ =>
    if offPos = s.p then pulseEnd n t (if c = maxOn then .firedCut else .fired) s else s
  | _ => s

/-- The recovery count is 0: OFF_READY (R127). -/
def takeRecoveryEnd (n : StationNo) (s : State) : State :=
  match (s.station n).engine with
  | .recovery c => if c = 0 then s.setStation n { s.station n with engine := .offReady } else s
  | _ => s

/-! ### Arrival (R121, R122) -/

/-- The end rule of a pulse, from the record's ORDER and the station's MAX_ON (R121 step 4). -/
def endRuleOf (w : Width) (maxOn : Half) : EndRule :=
  match w with
  | .time ticks => .time (if ticks.toNat ≤ maxOn.toNat then ticks else maxOn) ticks
  | .span offPos => .span offPos maxOn

/-- An OFF_READY engine starts the pulse of the head `t` with order `o` (R121). The tick of the arrival is not counted
(R123). -/
def startPulse (n : StationNo) (t : Byte) (o : Order) (s : State) : State :=
  let x := s.station n
  (s.setStation n
    { x with
      list := x.list.tail,
      guardMark := some (s.p + x.record.guard.setWidth 24),
      engine := .on { tag := t, endRule := endRuleOf o.width x.record.maxOn, onTicks := 0 },
      tickLate := false }).modifyRecord t
    (fun r => { r with state := .firing, firing := some { onPos := s.p, onTicks := 0 } })

/-- An engine that is ON or in RECOVERY does not fire the head: it leaves the list and retires COLLIDED (R122). -/
def collide (n : StationNo) (t : Byte) (s : State) : State :=
  let x := s.station n
  retireAndCheck t .collided (s.setStation n { x with list := x.list.tail })

/-- The order of the head of station `n`'s list, with its tag, when P is at its on position (R121). -/
def State.arriving (s : State) (n : StationNo) : Option (Byte × Order) :=
  match (s.station n).list.head? with
  | none => none
  | some t =>
    match s.liveRecord t with
    | none => none
    | some r =>
      match r.state, r.order with
      | .committed, some o => if o.onPos = s.p then some (t, o) else none
      | _, _ => none

/-- The arrival at station `n` (R121, R122). No arrival reaches a DISABLED engine (R119). -/
def takeArrival (n : StationNo) (s : State) : State :=
  match s.arriving n with
  | none => s
  | some (t, o) =>
    match (s.station n).engine with
    | .offReady => startPulse n t o s
    | .on _ => collide n t s
    | .recovery _ => collide n t s
    | .disabled => s

/-! ### The rows -/

def execArrival (n : StationNo) (s : State) : Answer := .next (event (takeArrival n) s)

def execOffPositionReached (n : StationNo) (s : State) : Answer := .next (event (takeOffPosition n) s)

/-- TIME_PULSE_END (R124): the engine takes a tick still to take, then its pulse ends if the count is the end count. -/
def execTimePulseEnd (n : StationNo) (s : State) : Answer :=
  .next (event (fun s => takeTimePulseEnd n (takeLateTick n s)) s)

/-- MAX_ON_CUT (R125). -/
def execMaxOnCut (n : StationNo) (s : State) : Answer :=
  .next (event (fun s => takeMaxOnCut n (takeLateTick n s)) s)

/-- RECOVERY_END (R127). -/
def execRecoveryEnd (n : StationNo) (s : State) : Answer :=
  .next (event (fun s => takeRecoveryEnd n (takeLateTick n s)) s)

end Sys2Proof.Machine
end

