-- ==== Sys2Proof/Machine/Lanes.lean ====
section
/-! DEFINITION. Chapter 3 and the table's part of a lead edge (R53): lanes taking edges and jams, the row JAM, and the work of
SET_LANE and READ_LANE. -/

namespace Sys2Proof.Machine

/-! ### Deferred settings, SETTLING entry and the return (R31, R33, R35) -/

/-- The record's POLARITY and DEPTH come into force; a changed depth clears the filter's run count (R2, R31). -/
def Lane.inForce (x : Lane) : Lane :=
  { x with
    polarity := x.record.polarity, depth := x.record.depth, settingsPending := false,
    filter := if x.depth = x.record.depth then x.filter else filterNewDepth x.filter }

/-- Deferred sensor fields come into force, if there are any (R33 step 2, R35). -/
def Lane.applyPending (x : Lane) : Lane := if x.settingsPending then x.inForce else x

/-- SETTLING while the level reads active, CLEAR when it reads inactive (R33 step 2, R35). -/
def Lane.settleOrClear (x : Lane) : Lane := { x with state := if x.active then .settling else .clear }

/-- Entry to SETTLING from OFF (R35). -/
def Lane.enterSettling (x : Lane) : Lane := x.applyPending.settleOrClear

/-- The return of a lane that leaves an object (R33). The measurement is dropped (R28). -/
def Lane.return (x : Lane) : Lane :=
  let y : Lane := { x with measurement := none }
  if y.disablePending then { y with state := .off, disablePending := false }
  else if y.settingsPending then y.inForce.settleOrClear
  else { y with state := .clear }

/-! ### Allocation (R53, R55, R57, R74) -/

/-- The search of R55: the first value from `tc` upward, wrapping, that no record holds. -/
def findTag (items : List ItemRecord) (tc : Byte) : Nat → Byte
  | 0 => tc
  | fuel + 1 => if items.any (fun r => r.tag == tc) then findTag items (tc + 1) fuel else tc

/-- The tag the next allocation gives (R55). -/
def State.nextTag (s : State) : Byte := findTag s.items s.tc 256

/-- The jam position of an item (R28). -/
def jamPosition (lead : Pos) (maxLength : Half) : Pos := lead + maxLength.setWidth 24 + 1

/-- The record of a new item (R36, R53): D by R57. -/
def newRecord (t : Byte) (l : LaneNo) (lead : Pos) (f : ItemFields) : ItemRecord :=
  { tag := t, lane := l, lead, state := .measuring, snapshot := f, d := lead + f.decisionDistance.setWidth 24,
    length := none, verdict := none, order := none, firing := none, outcome := none }

/-- An allocation for lane `l` (R53): the record is the youngest, TC becomes the tag plus one, and FREE_LOW is set when the
free count is then below the threshold (R74). -/
def allocate (l : LaneNo) (s : State) : State :=
  let t := s.nextTag
  let s1 : State := { s with items := s.items ++ [newRecord t l s.p (s.lane l).record.item], tc := t + 1 }
  { s1 with freeLow := s1.freeLow || s1.freeBelow }

/-! ### Edges and jams (R36 to R45) -/

/-- At 255 the missed counter stays (R46). -/
def missedInc (c : Byte) : Byte := if c = 255 then c else c + 1

/-- A lead edge taken by lane `l` (R36, R37, R39). -/
def takeLead (l : LaneNo) (s : State) : State :=
  let x := s.lane l
  if x.state = .clear ∧ s.run = .run then
    if 0 < s.freeCount then
      (allocate l s).setLane l
        { x with state := .measuring,
                 measurement := some { tag := s.nextTag, jam := jamPosition s.p x.record.item.maxLength } }
    else
      { s.setLane l { x with state := .missing, missed := missedInc x.missed } with laneAlert := true }
  else s

/-- The lane is MEASURING and P is at its jam position (R42). -/
def State.jamDue (s : State) (l : LaneNo) : Option Byte :=
  match (s.lane l).state, (s.lane l).measurement with
  | .measuring, some m => if m.jam = s.p then some m.tag else none
  | _, _ => none

/-- The jam of lane `l` (R42); in DRAIN the check of R19 ends the event. -/
def takeJam (l : LaneNo) (s : State) : State :=
  match s.jamDue l with
  | none => s
  | some t =>
    let s1 := retire t .overlength s
    drainCheck { s1.setLane l { s1.lane l with state := .jammed, measurement := none } with laneAlert := true }

/-- The measured length: P − LEAD mod 2^24 (R40), at most MAX_LENGTH, so 16 bits hold it. -/
def measuredLength (p lead : Pos) : Half := (p - lead).setWidth 16

/-- The end of a measurement (R40): the record takes its length, enters PENDING and joins the announce list (R62); a short
item is discarded (R41) and in DRAIN the check of R19 ends the event. The lane returns (R33). -/
def endMeasurement (l : LaneNo) (t : Byte) (s : State) : State :=
  let back := fun (a : State) => a.setLane l (a.lane l).return
  match s.liveRecord t with
  | none => back s
  | some r =>
    let len := measuredLength s.p r.lead
    if r.state ≠ .measuring then back s
    else if len.toNat < r.snapshot.minLength.toNat then drainCheck (back (s.freeSlot t))
    else
      back { s.modifyRecord t (fun x => { x with length := some len, state := .pending }) with
             announce := s.announce ++ [t] }

/-- A trailing edge taken by lane `l`, by its state (R35, R39, R40, R44, R45). -/
def takeTrailingNow (l : LaneNo) (s : State) : State :=
  let x := s.lane l
  match x.state with
  | .off => s
  | .clear => s
  | .settling => s.setLane l { x with state := .clear }
  | .jammed => s.setLane l x.return
  | .missing => s.setLane l x.return
  | .measuring =>
    match x.measurement with
    | some m => endMeasurement l m.tag s
    | none => s.setLane l x.return

/-- A trailing edge of lane `l`. The lane does not take it while its jam position has already been reached (R40): the jam
is then declared first, and the edge is taken after it (R43). -/
def takeTrailing (l : LaneNo) (s : State) : State := takeTrailingNow l (takeJam l s)

/-- Lead or trailing. -/
inductive Sense where
  | lead
  | trailing
  deriving DecidableEq, Repr

/-- The sense of a qualified edge under a polarity (R30). -/
def senseOf (pol : Polarity) (d : EdgeDir) : Sense :=
  if edgeLevel d = activeLevel pol then .lead else .trailing

/-- The level that an edge of a sense leads to under a polarity (R30). -/
def senseLevel (pol : Polarity) : Sense → Level
  | .lead => activeLevel pol
  | .trailing => inactiveLevel pol

/-- Lane `l` takes an edge of a sense. -/
def takeSense (l : LaneNo) : Sense → State → State
  | .lead => takeLead l
  | .trailing => takeTrailing l

/-- Lane `l` takes the edge its tick has made, if it has one to take; it is judged under the polarity then in force
(R38). -/
def flushLane (l : LaneNo) (s : State) : State :=
  match (s.lane l).edge with
  | none => s
  | some d => takeSense l (senseOf (s.lane l).polarity d) (s.setLane l { s.lane l with edge := none })

/-! ### SET_LANE and READ_LANE (R29 to R32, R47) -/

/-- The sensor fields of a written record come into force or are deferred, by the lane state (R31). The level read is the
filter's Q after the tick before the command, whose edge the lane has taken (log 1). A CLEAR lane that reads active then enters
SETTLING, also when POLARITY is unchanged (log 12). -/
def Lane.sensorFields (x : Lane) (r : LaneRecord) : Lane :=
  let y : Lane := { x with record := r }
  match x.state with
  | .off => y.inForce
  | .settling => y.inForce.settleOrClear
  | .clear => if y.inForce.active then { y.inForce with state := .settling } else y.inForce
  | .measuring | .jammed | .missing =>
    { y with settingsPending := decide (r.polarity ≠ x.polarity) || decide (r.depth ≠ x.depth) }

/-- The written ENABLE acts on the lane state, after the sensor fields (R32). -/
def Lane.enableChange (x : Lane) (enable : Bool) (rs : RunState) : Lane :=
  if enable then
    let y : Lane := { x with disablePending := false }
    if x.state = .off ∧ rs = .run then y.enterSettling else y
  else
    match x.state with
    | .off => { x with disablePending := false }
    | .settling | .clear => { x with state := .off }
    | .measuring | .jammed | .missing => { x with disablePending := true }

/-- SET_LANE (R29). -/
def doSetLane (s : State) : Reply :=
  match laneOf s.params with
  | none => refuse .param s
  | some (l, r) => (.ok, s.setLane l (((s.lane l).sensorFields r).enableChange r.enable s.run))

/-- READ_LANE (R47). -/
def doReadLane (s : State) : Reply :=
  match indexOf 4 s.params[0] with
  | none => refuse .param s
  | some l => (.ok, { s with reply := laneReply l (s.lane l) })

/-! ### The rows -/

def execJam (l : LaneNo) (s : State) : Answer := .next (event (takeJam l) s)

end Sys2Proof.Machine
end

