-- ==== Sys2Proof/Machine/Items.lean ====
section
/-! DEFINITION. Chapter 4: the deadline and the default action, the row DEADLINE, and the work of NEXT_DETECTION,
READ_ITEM and SET_FREE_THRESHOLD. -/

namespace Sys2Proof.Machine

/-! ### The deadline (R58 to R60) -/

/-- The verdict of a default EJECT (R60 step 1). -/
def defaultVerdict (f : ItemFields) : Verdict :=
  { source := .defaulted, station := f.defaultStation, profile := f.defaultProfile, priority := f.defaultPriority }

/-- The default EJECT of the PENDING record `r` (R60). -/
def defaultEject (r : ItemRecord) (s : State) : State :=
  let v := defaultVerdict r.snapshot
  let s1 := s.modifyRecord r.tag (fun x => { x with verdict := some v })
  let st := (s.station v.station).record
  if st.enable = false ∨ st.lane ≠ r.lane then retireAndCheck r.tag .unroutable s1
  else
    let o := s.orderFor r v
    if isAhead s.p o.onPos = false then retireAndCheck r.tag .missedWindow s1
    else
      match s1.arbitrate r.tag v o.onPos with
      | none => retireAndCheck r.tag .conflict s1
      | some bumped => place r.tag v o bumped s1

/-- The deadline of the record that holds `t` (R58): the default action of its snapshot when it is PENDING and P is at its
D; no effect otherwise. -/
def takeDeadline (t : Byte) (s : State) : State :=
  match s.liveRecord t with
  | none => s
  | some r =>
    if r.state = .pending ∧ r.d = s.p then
      match r.snapshot.defaultKind with
      | .pass => retireAndCheck t .defaultPassed s
      | .eject => defaultEject r s
    else s

/-- DEADLINE. -/
def execDeadline (t : Byte) (s : State) : Answer := .next (event (takeDeadline t) s)

/-! ### The announce list and READ_ITEM (R64, R67) -/

/-- NEXT_DETECTION (R64). The head record is always in the table; a reference to none would answer EMPTY (log 15). -/
def doNextDetection (s : State) : Reply :=
  match s.announce with
  | [] => refuse .empty s
  | t :: rest =>
    match s.heldRecord t with
    | none => refuse .empty s
    | some r => (.ok, { s with announce := rest, reply := detectionReply r })

/-- READ_ITEM (R67). -/
def doReadItem (s : State) : Reply :=
  match s.heldRecord s.params[0] with
  | none => refuse .unknown s
  | some r => (.ok, { s with reply := itemReply r (s.age r.tag) })

/-! ### The free threshold (R73) -/

/-- SET_FREE_THRESHOLD (R73): FREE_LOW is neither set nor cleared. -/
def doSetFreeThreshold (s : State) : Reply :=
  match thresholdOf s.params with
  | none => refuse .param s
  | some b => (.ok, { s with freeThreshold := b })

end Sys2Proof.Machine
end

