-- ==== Sys2Proof/Machine/Verdicts.lean ====
section
/-! DEFINITION. Chapter 5: the work of VERDICT, PASS and ABORT. -/

namespace Sys2Proof.Machine

/-- The key checks (R75): the live record of the key, or UNKNOWN or STALE. -/
def State.keyCheck (s : State) : ResultCode ⊕ ItemRecord :=
  match s.liveRecord (keyOf s.params).1 with
  | none => .inl .unknown
  | some r => if r.stamp = (keyOf s.params).2 then .inr r else .inl .stale

/-- The answer of VERDICT and PASS for a COMMITTED or FIRING record, by the source of its VERDICT (R77, R83). Such a record
always holds one (log 15). -/
def decidedAnswer (r : ItemRecord) : ResultCode :=
  match r.verdict.map Verdict.source with
  | some .defaulted => .late
  | some .commanded => .decided
  | none => .decided

/-- VERDICT for a PENDING record (R78 to R81). The drain completion check finds the committed record live (R81). -/
def verdictPending (r : ItemRecord) (s : State) : Reply :=
  match verdictOf s.params with
  | none => refuse .param s
  | some v =>
    let st := (s.station v.station).record
    if st.enable = false then refuse .stationOff s
    else if st.lane ≠ r.lane then refuse .wrongLane s
    else
      let o := s.orderFor r v
      if isAhead s.p o.onPos = false then refuse .late s
      else
        match s.arbitrate r.tag v o.onPos with
        | none => refuse .conflict s
        | some bumped => (.ok, place r.tag v o bumped s)

/-- VERDICT (R77). -/
def doVerdict (s : State) : Reply :=
  match s.keyCheck with
  | .inl code => refuse code s
  | .inr r =>
    match r.state with
    | .measuring => refuse .notReady s
    | .pending => verdictPending r s
    | .committed => refuse (decidedAnswer r) s
    | .firing => refuse (decidedAnswer r) s
    | .retired => refuse .unknown s

/-- PASS (R82, R83). -/
def doPass (s : State) : Reply :=
  match s.keyCheck with
  | .inl code => refuse code s
  | .inr r =>
    match r.state with
    | .measuring => refuse .notReady s
    | .pending => (.ok, retireAndCheck r.tag .passed s)
    | .committed => refuse (decidedAnswer r) s
    | .firing => refuse (decidedAnswer r) s
    | .retired => refuse .unknown s

/-- ABORT (R84 to R86). -/
def doAbort (s : State) : Reply :=
  match s.keyCheck with
  | .inl code => refuse code s
  | .inr r =>
    match r.state with
    | .measuring => refuse .notReady s
    | .pending => (.ok, retireAndCheck r.tag .aborted s)
    | .committed => (.ok, retireAndCheck r.tag .aborted s)
    | .firing => refuse .inProgress s
    | .retired => refuse .unknown s

end Sys2Proof.Machine
end

