-- ==== Sys2Proof/Machine/Outcomes.lean ====
section
/-! DEFINITION. Chapter 8: the work of NEXT_OUTCOME, and the row BACKLOG_PROMOTION. -/

namespace Sys2Proof.Machine

/-- The head of the backlog moves into the queue when the queue has room (R71, R142): its reference leaves the backlog, its
outcome record is formed and appended, and its slot becomes free. A RETIRED record always holds its OUTCOME (log 15). -/
def promote (s : State) : State :=
  match s.backlog with
  | [] => s
  | t :: rest =>
    if s.queue.length < Config.queueDepth then
      match s.heldRecord t with
      | none => { s with backlog := rest }
      | some r =>
        { s.freeSlot t with backlog := rest, queue := s.queue ++ [outcomeOf r (r.outcome.getD .halted)] }
    else s

/-- BACKLOG_PROMOTION. -/
def execBacklogPromotion (s : State) : Answer := .next (event promote s)

/-- NEXT_OUTCOME (R142). -/
def doNextOutcome (s : State) : Reply :=
  match s.queue with
  | [] => refuse .empty s
  | o :: rest => (.ok, promote { s with queue := rest, reply := outcomeReply o })

end Sys2Proof.Machine
end

