-- ==== Sys2Proof/Machine/Settle.lean ====
section
/-! DEFINITION. Events the part has raised and nobody has ordered: taking every reached position, every engine end by ticks,
the advance and every edge that the last tick has made, in a fixed order (log 2); the advance of P (R5, R6, R7) and the change
of the qualified XSTOP level (R21), which come after what is already due; and what comes before an access or an edge that
follows a tick (log 1). -/

namespace Sys2Proof.Machine

/-- An event at every station, in station order. -/
def forStations (f : StationNo → State → State) (s : State) : State := allStations.foldl (fun a n => f n a) s

/-- An event at every lane, in lane order. -/
def forLanes (f : LaneNo → State → State) (s : State) : State := allLanes.foldl (fun a l => f l a) s

/-- The deadlines due, in age order. -/
def settleDeadlines (s : State) : State := (s.items.map ItemRecord.tag).foldl (fun a t => takeDeadline t a) s

/-- Every position that P has reached is taken: guard marks, off positions, on positions, jam positions, decision positions
(R9). What is not reached is left alone. -/
def settleReached (s : State) : State :=
  settleDeadlines (forLanes takeJam (forStations takeArrival (forStations takeOffPosition (forStations takeGuardMark s))))

/-- Every engine whose count has come to its end leaves ON or RECOVERY (R124, R125, R127). -/
def settleEngines (s : State) : State :=
  forStations takeRecoveryEnd (forStations takeMaxOnCut (forStations takeTimePulseEnd s))

/-- Everything due at this P and these counts. -/
def settleDue (s : State) : State := settleReached (settleEngines s)

/-- An advance (R5): the positions reached at the present P are taken first, in RUN or DRAIN (R6, R9); if the line still
runs after them, P becomes P + 1. -/
def advance (s : State) : State :=
  let s1 := settleReached s
  if s1.running then { s1 with p := s1.p + 1 } else s1

/-- The advance that the last tick has made, by an encoder edge (R6) or by the rate countdown (R7), is taken, if it waits. -/
def takeDueAdvance (s : State) : State :=
  if s.advanceDue then
    let s1 : State := { s with advanceDue := false }
    if s.running then advance s1 else s1
  else s

/-- Run control takes a change of the qualified XSTOP level (R21): FALLING (active) in RUN or DRAIN is a halt entry with
cause XSTOP, after what is due has been taken (R6, R23); otherwise nothing changes. -/
def takeXstop (d : EdgeDir) (s : State) : State :=
  match d with
  | .rising => s
  | .falling =>
    if s.running then
      let s1 := settleDue s
      if s1.running then haltEntry .xstop s1 else s1
    else s

/-- The XSTOP change its tick has made is taken, if it waits. -/
def flushXstop (s : State) : State :=
  match s.xstopEdge with
  | none => s
  | some d => takeXstop d { s with xstopEdge := none }

/-- Everything the last tick has raised is taken, before the next tick: the engine ends, the advance with the positions it
reaches, the ticks that engines take after the advance, the lanes' edges, the XSTOP change (log 2). -/
def settleAll (s : State) : State :=
  let s1 := settleReached (takeDueAdvance (settleDue s))
  let s2 := settleEngines (forStations takeLateTick s1)
  flushXstop (forLanes flushLane s2)

/-- What the last tick has made is taken, before an access of the host or an edge that follows the tick in the queue: the
engine ends by that tick (R124, R125, R127), its advance (R6, R7), the lanes' edges (R36, R40) and the XSTOP change (R21), each
judged in the state the tick found. A position reached by that advance may still wait for its own row (log 1). -/
def finishTick (s : State) : State :=
  flushXstop (forLanes flushLane (takeDueAdvance (settleEngines s)))

/-- An access of the host: what the tick before it has made is taken first (log 1). -/
def access (f : State → State) (s : State) : State := event (fun a => f (finishTick a)) s

end Sys2Proof.Machine
end

