-- ==== Sys2Proof/Machine/Timebase.lean ====
section
/-! DEFINITION. Chapter 1: the rows TICK, RATE_COUNTDOWN_EXPIRY and POS0_READ, the work of SET_TIMEBASE, READ_TIMEBASE and
SET_POSITION, and the CLKIN period that passes while no command waits. -/

namespace Sys2Proof.Machine

/-! ### The tick (R1) -/

/-- The encoder filter samples ENC (R3). A qualified edge is judged at this tick (R6): it makes an advance under ENCODER, in
the direction of ENC_EDGE, in RUN or DRAIN; any other edge has no effect or is discarded, and nothing of it is stored. -/
def sampleEncoder (l : Level) (s : State) : State :=
  let r := filterSample s.encFilter s.timebase.encDepth.toNat l
  { s with
    encFilter := r.1,
    advanceDue := decide (s.timebase.source = .encoder ∧ r.2 = some s.timebase.encEdge ∧ s.running = true) }

/-- The XSTOP filter samples XSTOP (R4). -/
def sampleXstop (l : Level) (s : State) : State :=
  let r := filterSample s.xstopFilter Config.xstopDepth l
  { s with xstopFilter := r.1, xstopEdge := r.2 }

/-- A sensor filter samples its pin, at the in-force depth (R30). -/
def Lane.sample (x : Lane) (l : Level) : Lane :=
  let r := filterSample x.filter x.depth.toNat l
  { x with filter := r.1, edge := r.2 }

/-- Every sensor filter samples its pin. -/
def sampleLanes (sns : Vector Level 4) (s : State) : State :=
  forLanes (fun l a => a.setLane l ((a.lane l).sample sns[l.val])) s

/-- K counts at a tick under INTERNAL in RUN or DRAIN; when it becomes 0 it is loaded with RATE and the tick makes an advance
(R7). -/
def countRate (s : State) : State :=
  if s.timebase.source = .internal ∧ s.running = true then
    if s.k - 1 = 0 then { s with k := s.timebase.rate, advanceDue := true } else { s with k := s.k - 1 }
  else s

/-- Every engine takes the tick, or will take it after the advance of this tick (R1, R125, log 4). -/
def tickEngines (late : BitVec 8) (s : State) : State :=
  forStations
    (fun n a => if late.getLsbD n.val then a.setStation n { a.station n with tickLate := true } else engineTick n a) s

/-- The tick itself, once what the tick before has raised is taken (R1). -/
def tickNow (samples : PinSamples) (late : BitVec 8) (s : State) : State :=
  tickEngines late
    (countRate (sampleLanes samples.sns (sampleXstop samples.xstop (sampleEncoder samples.enc
      { s with divCount := s.timebase.divider }))))

/-- TICK (R1). -/
def execTick (samples : PinSamples) (late : BitVec 8) (s : State) : Answer :=
  .next (event (fun s => tickNow samples late (settleAll s)) s)

/-! ### The rate countdown (R7) -/

/-- The end of the rate countdown (R7): the advance that the last tick has made under INTERNAL is taken. Without one the
countdown has not ended and nothing happens (log 5). -/
def takeRateExpiry (s : State) : State := if s.timebase.source = .internal then takeDueAdvance s else s

/-- RATE_COUNTDOWN_EXPIRY (R7). -/
def execRateCountdownExpiry (s : State) : Answer := .next (event takeRateExpiry s)

/-! ### SET_TIMEBASE, READ_TIMEBASE, SET_POSITION (R11 to R14) -/

/-- SET_TIMEBASE (R11, R12). The encoder filter's run count becomes 0 and its level is kept (R12, log 11). -/
def doSetTimebase (s : State) : Reply :=
  if s.run ≠ .idle then refuse .state s
  else
    match timebaseOf s.params with
    | none => refuse .param s
    | some r => (.ok, { s with timebase := r, encFilter := filterNewDepth s.encFilter })

/-- READ_TIMEBASE (R13). -/
def doReadTimebase (s : State) : Reply := (.ok, { s with reply := timebaseReply s.timebase })

/-- SET_POSITION (R14): P is loaded, no position is reached, and every guard mark becomes invalid (R111). -/
def doSetPosition (s : State) : Reply :=
  if s.run ≠ .idle then refuse .state s
  else
    (.ok, { s with p := positionOf s.params,
                   stations := s.stations.map (fun x => { x with guardMark := none }) })

/-! ### POS0_READ (R15) -/

/-- A read of POS0 returns bits 0 to 7 of P and latches bits 8 to 23 of the same value. -/
def readPos0 (s : State) : State :=
  { s with readData := s.p.extractLsb' 0 8, latchMid := s.p.extractLsb' 8 8, latchHigh := s.p.extractLsb' 16 8 }

/-- POS0_READ: P after the advance of a tick that stands before it (log 1). -/
def execPos0Read (s : State) : Answer := .next (access readPos0 s)

/-! ### CLKIN (R1, log 6) -/

/-- One CLKIN period passes while no command waits: the divider count counts it. At 0 the tick is due, and the row TICK,
which carries the samples, takes it. -/
def idleClock (s : State) : State :=
  if s.inReset ∨ s.divCount = 0 then s else { s with divCount := s.divCount - 1 }

end Sys2Proof.Machine
end

