-- ==== Sys2Proof/Machine/Edges.lean ====
section
/-! DEFINITION. The rows that are qualified edges of a filter: ENCODER_EDGE, LEAD_EDGE, TRAILING_EDGE, XSTOP_ACTIVE and
XSTOP_INACTIVE. Each takes the edge that the last tick has made, or, where that tick has made none, stands for the samples of
a later tick (log 3). -/

namespace Sys2Proof.Machine

/-- The state an edge row finds: that of the last tick when the tick has made this edge and it waits, else that of a later
tick, when all the last tick has made is taken (log 3). -/
def edgeStart (waits : Bool) (s : State) : State := if waits then s else finishTick s

/-! ### The encoder filter (R6) -/

/-- A qualified edge of the encoder filter, with the filter at the level it leads to (R6): an advance under ENCODER, in the
direction of ENC_EDGE, in RUN or DRAIN; otherwise discarded. -/
def takeEncoder (d : EdgeDir) (s : State) : State :=
  let s1 : State := { s with encFilter := filterAt s.encFilter (edgeLevel d) }
  if s.timebase.source = .encoder ∧ d = s.timebase.encEdge ∧ s.running = true then advance s1 else s1

/-- The last tick has made an advance by an edge in direction `d`. -/
def State.encoderWaits (s : State) (d : EdgeDir) : Bool :=
  s.advanceDue && decide (s.timebase.source = .encoder) && decide (d = s.timebase.encEdge)

/-- ENCODER_EDGE (R6). -/
def execEncoderEdge (d : EdgeDir) (s : State) : Answer :=
  .next (event (fun s => takeEncoder d { edgeStart (s.encoderWaits d) s with advanceDue := false }) s)

/-! ### The sensor filters (R36, R40) -/

/-- The edge that a lane takes as one of the given sense, under its in-force polarity, waits at lane `l`. -/
def State.laneWaits (s : State) (l : LaneNo) (sense : Sense) : Bool :=
  decide ((s.lane l).edge = some (edgeTo (senseLevel (s.lane l).polarity sense)))

/-- An edge of lane `l` of the given sense; the filter's level is the one the edge leads to. -/
def laneEdge (l : LaneNo) (sense : Sense) (s : State) : State :=
  let s1 := edgeStart (s.laneWaits l sense) s
  let x := s1.lane l
  takeSense l sense (s1.setLane l { x with filter := filterAt x.filter (senseLevel x.polarity sense), edge := none })

/-- LEAD_EDGE (R36). -/
def execLeadEdge (l : LaneNo) (s : State) : Answer := .next (event (laneEdge l .lead) s)

/-- TRAILING_EDGE (R40). -/
def execTrailingEdge (l : LaneNo) (s : State) : Answer := .next (event (laneEdge l .trailing) s)

/-! ### The XSTOP filter (R21) -/

/-- A change of the qualified XSTOP level; the filter's level is the new one. -/
def xstopChange (d : EdgeDir) (s : State) : State :=
  let s1 := edgeStart (decide (s.xstopEdge = some d)) s
  takeXstop d { s1 with xstopFilter := filterAt s1.xstopFilter (edgeLevel d), xstopEdge := none }

/-- XSTOP_ACTIVE (R21): the active level is LOW (R4). -/
def execXstopActive (s : State) : Answer := .next (event (xstopChange .falling) s)

/-- XSTOP_INACTIVE (R4, R21): no state changes but the level. -/
def execXstopInactive (s : State) : Answer := .next (event (xstopChange .rising) s)

end Sys2Proof.Machine
end

