-- ==== Sys2Proof/Machine/RunControl.lean ====
section
/-! DEFINITION. Chapter 2: the work of START, DRAIN, HALT, RESUME and CLEAR_LINE, and the row DRAIN_COMPLETION. -/

namespace Sys2Proof.Machine

/-- A lane at START: an enabled lane enters SETTLING, a disabled one stays OFF (R17, R35). The level it reads is the one after
the tick before the command: an edge of that tick found the lane OFF (log 1). -/
def Lane.atStart (x : Lane) : Lane := if x.record.enable then x.enterSettling else x

/-- START (R17): the run state is tested first. The XSTOP level is the one after the tick before the command, whose change
run control has taken (log 1). -/
def doStart (s : State) : Reply :=
  if s.run ≠ .idle then refuse .state s
  else if s.xstopActive then refuse .stopped s
  else (.ok, { s with run := .run, haltCause := .none, k := s.timebase.rate, lanes := s.lanes.map Lane.atStart })

/-- DRAIN (R18): the drain completion check is made at once. -/
def doDrain (s : State) : Reply :=
  if s.run ≠ .run then refuse .state s
  else (.ok, drainCheck { s with run := .drain })

/-- DRAIN_COMPLETION (R19). -/
def execDrainCompletion (s : State) : Answer := .next (event drainCheck s)

/-- HALT (R20): what is due has been taken before the halt (R6, R23), and may have completed the drain, and HALT is then
refused (R19). -/
def doHalt (s : State) : Reply :=
  if s.running = false then refuse .state s
  else
    let s1 := settleDue s
    if s1.running = false then refuse .state s1 else (.ok, haltEntry .command s1)

/-- RESUME (R25): the run state is tested first. -/
def doResume (s : State) : Reply :=
  if s.run ≠ .halt then refuse .state s
  else if s.xstopActive then refuse .stopped s
  else (.ok, { s with run := .idle })

/-- CLEAR_LINE (R26): queue and backlog discarded with the backlog slots, TC and the missed counters 0. -/
def doClearLine (s : State) : Reply :=
  if s.run ≠ .idle then refuse .state s
  else
    (.ok, { s with queue := [], backlog := [], items := s.items.filter ItemRecord.isLive, tc := 0,
                   lanes := s.lanes.map (fun x => { x with missed := 0 }) })

end Sys2Proof.Machine
end

