-- ==== Sys2Proof/Machine/Mailbox.lean ====
section
/-! DEFINITION. The mailbox: how a CMD write is taken and completed (R152, R153), and the rows of the 21 commands and of
BAD_COMMAND. The work of each command stands in the file of its chapter. -/

namespace Sys2Proof.Machine

/-! ### Taking a command (R152, R153) -/

/-- The work of each command by the block that owns it (Table 9.2). -/
def commandBody : HostCommand → State → Reply
  | .start => doStart
  | .drain => doDrain
  | .halt => doHalt
  | .resume => doResume
  | .clearLine => doClearLine
  | .setTimebase => doSetTimebase
  | .setPosition => doSetPosition
  | .setLane => doSetLane
  | .setStation => doSetStation
  | .setProfile => doSetProfile
  | .setFreeThreshold => doSetFreeThreshold
  | .readLane => doReadLane
  | .readStation => doReadStation
  | .readProfile => doReadProfile
  | .readItem => doReadItem
  | .readTimebase => doReadTimebase
  | .nextDetection => doNextDetection
  | .nextOutcome => doNextOutcome
  | .verdict => doVerdict
  | .pass => doPass
  | .abort => doAbort

/-- A CMD write that takes command `c` (R152): not taken while the part is held in reset (R162); otherwise what a tick before
it has made is taken (log 1), the block that owns the command does its work, CMD holds the code, and RESULT holds its result
code (R154). -/
def runCommand (c : HostCommand) (s : State) : State :=
  if s.inReset then s
  else
    let r := commandBody c (finishTick s)
    { r.2 with cmd := c.code, result := r.1 }

/-- A CMD write of a code that names no command (R153): CMD holds the byte, RESULT holds BAD_COMMAND, nothing else
changes. -/
def refuseCode (b : Byte) (s : State) : State := { s with cmd := b, result := .badCommand }

/-- A write of CMD (R152): the command whose code equals the byte is taken, or the write is refused (R153). -/
def writeCmd (b : Byte) (s : State) : State :=
  match HostCommand.ofCode b with
  | some c => runCommand c s
  | none => event (refuseCode b) s

/-- BAD_COMMAND (R153). The write of a code that Table 9.2 does name takes that command (R152). -/
def execBadCommand (code : Byte) (s : State) : Answer := .next (writeCmd code s)

/-! ### The rows -/

/-- START (R17). -/
def execStart (s : State) : Answer := .next (runCommand .start s)

/-- DRAIN (R18). -/
def execDrain (s : State) : Answer := .next (runCommand .drain s)

/-- HALT (R20). -/
def execHalt (s : State) : Answer := .next (runCommand .halt s)

/-- RESUME (R25). -/
def execResume (s : State) : Answer := .next (runCommand .resume s)

/-- CLEAR_LINE (R26). -/
def execClearLine (s : State) : Answer := .next (runCommand .clearLine s)

/-- SET_TIMEBASE (R11). -/
def execSetTimebase (s : State) : Answer := .next (runCommand .setTimebase s)

/-- SET_POSITION (R14). -/
def execSetPosition (s : State) : Answer := .next (runCommand .setPosition s)

/-- SET_LANE (R29). -/
def execSetLane (s : State) : Answer := .next (runCommand .setLane s)

/-- SET_STATION (R98). -/
def execSetStation (s : State) : Answer := .next (runCommand .setStation s)

/-- SET_PROFILE (R103). -/
def execSetProfile (s : State) : Answer := .next (runCommand .setProfile s)

/-- SET_FREE_THRESHOLD (R73). -/
def execSetFreeThreshold (s : State) : Answer := .next (runCommand .setFreeThreshold s)

/-- READ_LANE (R47). -/
def execReadLane (s : State) : Answer := .next (runCommand .readLane s)

/-- READ_STATION (R101). -/
def execReadStation (s : State) : Answer := .next (runCommand .readStation s)

/-- READ_PROFILE (R104). -/
def execReadProfile (s : State) : Answer := .next (runCommand .readProfile s)

/-- READ_ITEM (R67). -/
def execReadItem (s : State) : Answer := .next (runCommand .readItem s)

/-- READ_TIMEBASE (R13). -/
def execReadTimebase (s : State) : Answer := .next (runCommand .readTimebase s)

/-- NEXT_DETECTION (R64). -/
def execNextDetection (s : State) : Answer := .next (runCommand .nextDetection s)

/-- NEXT_OUTCOME (R142). -/
def execNextOutcome (s : State) : Answer := .next (runCommand .nextOutcome s)

/-- VERDICT (R77). -/
def execVerdict (s : State) : Answer := .next (runCommand .verdict s)

/-- PASS (R82). -/
def execPass (s : State) : Answer := .next (runCommand .pass s)

/-- ABORT (R84). -/
def execAbort (s : State) : Answer := .next (runCommand .abort s)

end Sys2Proof.Machine
end

