-- ==== Sys2Proof/Machine/Window.lean ====
section
/-! DEFINITION. Chapter 9: the write side of the register window, and the rows PARAM_WRITE, REGISTER_WRITE, IRQ_FLAGS_WRITE,
IRQ_ENABLE_WRITE, RESET and RESET_RELEASE. -/

namespace Sys2Proof.Machine

/-! ### Writes (R150, R151, R163, R166) -/

/-- A write of PARAM`n` stores the byte (R151). -/
def writeParam (n : Fin 12) (b : Byte) (s : State) : State := { s with params := s.params.set n.val b }

/-- PARAM_WRITE. -/
def execParamWrite (n : Fin 12) (b : Byte) (s : State) : Answer := .next (event (writeParam n b) s)

/-- A write of IRQ_FLAGS, after what a tick before it has made (R166, log 1). -/
def clearFlags (b : Byte) (s : State) : State := access (writeFlags b) s

/-- The byte delivered to a location at the end of a write cycle (R149, R150): CMD takes a command, PARAM0 to PARAM11 store,
IRQ_FLAGS clears, IRQ_ENABLE stores, and every other location ignores it. -/
def deliver (addr : BitVec 6) (b : Byte) (s : State) : State :=
  let a := addr.toNat
  if a = 0x00 then writeCmd b s
  else if h : 0x02 ≤ a ∧ a ≤ 0x0D then writeParam ⟨a - 2, by omega⟩ b s
  else if a = 0x0F then clearFlags b s
  else if a = 0x10 then writeEnables b s
  else s

/-- A write cycle is taken when it is one (CS and WR low, RD high) and lasts 2 CLKIN periods or more (R149). -/
def cycleTaken (c : BusCycle) : Bool :=
  accessKind { cs := .low, rd := if c.rdLow then .low else .high, wr := .low } == .write &&
    decide (Config.minWritePeriods ≤ c.periods)

/-- REGISTER_WRITE (R149, R150). -/
def execRegisterWrite (addr : BitVec 6) (b : Byte) (c : BusCycle) (s : State) : Answer :=
  .next (event (fun s => if cycleTaken c then deliver addr b s else s) s)

/-- IRQ_FLAGS_WRITE (R166). -/
def execIrqFlagsWrite (b : Byte) (s : State) : Answer := .next (clearFlags b s)

/-- IRQ_ENABLE_WRITE (R163). -/
def execIrqEnableWrite (b : Byte) (s : State) : Answer := .next (event (writeEnables b) s)

/-! ### RESET (R162) -/

/-- Every item of state at its reset value; the commands that wait are not the part's (log 7). -/
def resetState (s : State) : State := { State.reset with pending := s.pending }

/-- The reset is taken: every item of state goes to its reset value and the part is held in reset (R162). -/
def takeReset (s : State) : State := { resetState s with inReset := true }

/-- RESET (R162): taken when four consecutive samples show the pin low; a shorter low pulse has no effect. -/
def execReset (lowSamples : Nat) (s : State) : Answer :=
  .next (if Config.resetSamples ≤ lowSamples then takeReset s else s)

/-- RESET_RELEASE (R162): the reset ends; every item of state holds its reset value and the divider count is loaded with
DIVIDER (R1). A part that is not held in reset goes on as before. -/
def execResetRelease (s : State) : Answer :=
  .next (if s.inReset then { resetState s with divCount := State.reset.timebase.divider } else s)

end Sys2Proof.Machine
end

