-- ==== Sys2Proof/Machine/Dispatch.lean ====
section
/-! DEFINITION. One arm per row of the table of operations and events. -/

namespace Sys2Proof.Machine

def exec (i : Instr) (s : State) : Host.Outcome State Fault Refusal :=
  match i with
  | .start => Sys2Proof.Machine.execStart s
  | .drain => Sys2Proof.Machine.execDrain s
  | .drainCompletion => Sys2Proof.Machine.execDrainCompletion s
  | .halt => Sys2Proof.Machine.execHalt s
  | .resume => Sys2Proof.Machine.execResume s
  | .clearLine => Sys2Proof.Machine.execClearLine s
  | .setTimebase => Sys2Proof.Machine.execSetTimebase s
  | .setPosition => Sys2Proof.Machine.execSetPosition s
  | .setLane => Sys2Proof.Machine.execSetLane s
  | .setStation => Sys2Proof.Machine.execSetStation s
  | .setProfile => Sys2Proof.Machine.execSetProfile s
  | .setFreeThreshold => Sys2Proof.Machine.execSetFreeThreshold s
  | .readLane => Sys2Proof.Machine.execReadLane s
  | .readStation => Sys2Proof.Machine.execReadStation s
  | .readProfile => Sys2Proof.Machine.execReadProfile s
  | .readItem => Sys2Proof.Machine.execReadItem s
  | .readTimebase => Sys2Proof.Machine.execReadTimebase s
  | .nextDetection => Sys2Proof.Machine.execNextDetection s
  | .nextOutcome => Sys2Proof.Machine.execNextOutcome s
  | .backlogPromotion => Sys2Proof.Machine.execBacklogPromotion s
  | .verdict => Sys2Proof.Machine.execVerdict s
  | .pass => Sys2Proof.Machine.execPass s
  | .abort => Sys2Proof.Machine.execAbort s
  | .badCommand code => Sys2Proof.Machine.execBadCommand code s
  | .paramWrite n data => Sys2Proof.Machine.execParamWrite n data s
  | .registerWrite addr data cycle => Sys2Proof.Machine.execRegisterWrite addr data cycle s
  | .pos0Read => Sys2Proof.Machine.execPos0Read s
  | .irqFlagsWrite data => Sys2Proof.Machine.execIrqFlagsWrite data s
  | .irqEnableWrite data => Sys2Proof.Machine.execIrqEnableWrite data s
  | .reset lowSamples => Sys2Proof.Machine.execReset lowSamples s
  | .tick samples late => Sys2Proof.Machine.execTick samples late s
  | .encoderEdge dir => Sys2Proof.Machine.execEncoderEdge dir s
  | .rateCountdownExpiry => Sys2Proof.Machine.execRateCountdownExpiry s
  | .xstopActive => Sys2Proof.Machine.execXstopActive s
  | .xstopInactive => Sys2Proof.Machine.execXstopInactive s
  | .leadEdge lane => Sys2Proof.Machine.execLeadEdge lane s
  | .trailingEdge lane => Sys2Proof.Machine.execTrailingEdge lane s
  | .jam lane => Sys2Proof.Machine.execJam lane s
  | .deadline tag => Sys2Proof.Machine.execDeadline tag s
  | .arrival station => Sys2Proof.Machine.execArrival station s
  | .offPositionReached station => Sys2Proof.Machine.execOffPositionReached station s
  | .timePulseEnd station => Sys2Proof.Machine.execTimePulseEnd station s
  | .maxOnCut station => Sys2Proof.Machine.execMaxOnCut station s
  | .recoveryEnd station => Sys2Proof.Machine.execRecoveryEnd station s
  | .guardMarkReached station => Sys2Proof.Machine.execGuardMarkReached station s
  | .resetRelease => Sys2Proof.Machine.execResetRelease s

end Sys2Proof.Machine
end

