-- ==== Sys2Proof/Safety.lean ====
section
/-! DEFINITION. What a sound state of the block is, in the terms the statements use: the laws the spec states about every
moment of the device (R16, R28, R34, R50 to R55, R62, R108, R119, R120, R139, R170). -/

namespace Sys2Proof.Machine

/-- The law of R139 that one state shows: the outcome queue holds at most 16 records, and the backlog is non-empty only
while the queue holds 16. -/
def State.queueLaw (s : State) : Prop :=
  s.queue.length ≤ 16 ∧ (s.backlog ≠ [] → s.queue.length = 16)

/-- A BACKLOG flag at 0 says that no outcome waits behind the queue (R170). -/
def State.backlogFlagLaw (s : State) : Prop := s.backlog ≠ [] → s.backlogFlag = true

/-- At most 32 slots are taken (R50), and no two records that are live or in the backlog hold the same tag (R55). -/
def State.tableLaw (s : State) : Prop := s.items.length ≤ 32 ∧ (s.items.map ItemRecord.tag).Nodup

/-- The backlog names each RETIRED record of the table once, and nothing else (R50, R139). -/
def State.backlogLaw (s : State) : Prop :=
  s.backlog.Nodup ∧ ∀ t, t ∈ s.backlog ↔ ∃ r ∈ s.items, r.tag = t ∧ r.state = .retired

/-- The announce list names PENDING records only, each at most once (R62). -/
def State.announceLaw (s : State) : Prop :=
  s.announce.Nodup ∧ ∀ t ∈ s.announce, ∃ r ∈ s.items, r.tag = t ∧ r.state = .pending

/-- A record is in a station list if and only if it is COMMITTED, and then in the list of the station its VERDICT names,
once (R108). -/
def State.listLaw (s : State) : Prop :=
  ∀ n, (s.station n).list.Nodup ∧
    ∀ t, t ∈ (s.station n).list ↔
      ∃ r ∈ s.items, r.tag = t ∧ r.state = .committed ∧ r.verdict.map Verdict.station = some n

/-- An engine is ON exactly when one item is FIRING at its station, with the engine's on-tick count in its record (R120,
R123); an engine is DISABLED exactly when its station's ENABLE is 0, and its list is then empty (R119). -/
def State.engineLaw (s : State) : Prop :=
  (∀ n q, (s.station n).engine = .on q →
    ∃ r ∈ s.items, r.tag = q.tag ∧ r.state = .firing ∧ r.verdict.map Verdict.station = some n ∧
      r.firing.map Firing.onTicks = some q.onTicks) ∧
  (∀ r ∈ s.items, r.state = .firing →
    ∃ n q, r.verdict.map Verdict.station = some n ∧ (s.station n).engine = .on q ∧ q.tag = r.tag) ∧
  ∀ n, ((s.station n).record.enable = false ↔ (s.station n).engine = .disabled) ∧
    ((s.station n).engine = .disabled → (s.station n).list = [])

/-- The measurement is present exactly while the lane is MEASURING, and names a MEASURING record of that lane with its jam
position; each MEASURING record is measured by its lane, and P is at or before its jam position (R28, R36, R42). -/
def State.laneLaw (s : State) : Prop :=
  (∀ l, (s.lane l).state = .measuring ↔ (s.lane l).measurement ≠ none) ∧
  (∀ l m, (s.lane l).measurement = some m →
    ∃ r ∈ s.items, r.tag = m.tag ∧ r.state = .measuring ∧ r.lane = l ∧
      m.jam = jamPosition r.lead r.snapshot.maxLength) ∧
  ∀ r ∈ s.items, r.state = .measuring →
    (s.lane r.lane).measurement.map Measurement.tag = some r.tag ∧
      (s.p - r.lead).toNat ≤ r.snapshot.maxLength.toNat + 1

/-- Which optional fields a record holds in each live state; a RETIRED record holds its OUTCOME, and a live one none
(Table 4.1, R52). -/
def ItemRecord.presence (r : ItemRecord) : Prop :=
  match r.state with
  | .measuring => r.length = none ∧ r.verdict = none ∧ r.order = none ∧ r.firing = none ∧ r.outcome = none
  | .pending => r.length ≠ none ∧ r.verdict = none ∧ r.order = none ∧ r.firing = none ∧ r.outcome = none
  | .committed => r.length ≠ none ∧ r.verdict ≠ none ∧ r.order ≠ none ∧ r.firing = none ∧ r.outcome = none
  | .firing => r.length ≠ none ∧ r.verdict ≠ none ∧ r.order ≠ none ∧ r.firing ≠ none ∧ r.outcome = none
  | .retired => r.outcome ≠ none

def State.presenceLaw (s : State) : Prop := ∀ r ∈ s.items, r.presence

/-- In IDLE and HALT there is no live record, no engine is ON and every lane is OFF (R16), and no advance waits (R6, R7). -/
def State.restLaw (s : State) : Prop :=
  s.run = .idle ∨ s.run = .halt →
    s.hasLive = false ∧ (∀ n, (s.station n).engine.isOn = false) ∧ (∀ l, (s.lane l).state = .off) ∧ s.advanceDue = false

/-- The free threshold is 0 to 31 (R73). -/
def State.thresholdLaw (s : State) : Prop := s.freeThreshold.toNat ≤ 31

/-- The timebase record is within its ranges (R10, R11), and K is 1 to 65,535 (R7). -/
def State.timebaseLaw (s : State) : Prop :=
  (1 ≤ s.timebase.divider.toNat ∧ s.timebase.divider.toNat ≤ 4096) ∧
  (1 ≤ s.timebase.encDepth.toNat ∧ s.timebase.encDepth.toNat ≤ 15) ∧ 1 ≤ s.timebase.rate.toNat ∧ 1 ≤ s.k.toNat

/-- A sound state: the laws above together. -/
structure State.Sound (s : State) : Prop where
  queue     : s.queueLaw
  flag      : s.backlogFlagLaw
  table     : s.tableLaw
  backlog   : s.backlogLaw
  announce  : s.announceLaw
  lists     : s.listLaw
  engines   : s.engineLaw
  lanes     : s.laneLaw
  presence  : s.presenceLaw
  rest      : s.restLaw
  threshold : s.thresholdLaw
  timebase  : s.timebaseLaw

/-- The ahead distances of a station's listed orders, from the head on. -/
def State.listedDistances (s : State) (n : StationNo) : List Nat :=
  (s.station n).list.map (fun t => ((s.onPosOf t).map (aheadDist s.p)).getD 0)

/-- Each number is at least `g` more than the one before it. -/
def spacedBy (g : Nat) (ds : List Nat) : Prop := ds.Pairwise (fun a b => a + g ≤ b)

/-- What R108 says of every station list: on positions ahead of P, save that the head stays at P until its arrival is
taken; consecutive entries at least GUARD apart in ascending order; the first not before a valid guard mark. GUARD is 1 or
more (R97). -/
def State.spacingLaw (s : State) : Prop :=
  ∀ n, 1 ≤ (s.station n).record.guard.toNat ∧
    (∀ d ∈ s.listedDistances n, d ≤ 8388607) ∧
    spacedBy (s.station n).record.guard.toNat (s.listedDistances n) ∧
    ∀ m, (s.station n).guardMark = some m → ∀ d ∈ s.listedDistances n, aheadDist s.p m ≤ d

/-- The outcome records the host has still to take, in the order NEXT_OUTCOME delivers them: the queue, then the records
of the backlog (R139, R142). -/
def State.waiting (s : State) : List OutcomeRecord :=
  s.queue ++ s.backlog.filterMap (fun t => (s.heldRecord t).map (fun r => outcomeOf r (r.outcome.getD .halted)))

/-- A live record exists (R50). -/
def State.someLive (s : State) : Prop := ∃ r ∈ s.items, r.state ≠ .retired

/-- A drain has something to wait for: in DRAIN a live record exists, since the check of R19 follows each event that ends
one. -/
def State.drainLaw (s : State) : Prop := s.run = .drain → s.someLive

/-- `t` is what the halt entry of R22 makes of `s`: every live record retired HALTED, oldest first, behind the outcomes that
waited; announce list, station lists and guard marks empty; engines at rest; lanes OFF; an advance still to take discarded; and
nothing else changed. -/
structure State.HaltedFrom (t s : State) (cause : HaltCause) : Prop where
  outcomes : t.waiting = s.waiting ++ (s.items.filter ItemRecord.isLive).map (fun r => outcomeOf r .halted)
  queued   : t.queue.length = min 16 (s.queue.length + s.backlog.length + (s.items.filter ItemRecord.isLive).length)
  noLive   : ¬ t.someLive
  stations : ∀ n, t.station n =
    { s.station n with
      list := [], guardMark := none, tickLate := false,
      engine := if (s.station n).engine = .disabled then .disabled else .offReady }
  lanes    : ∀ l, t.lane l = { s.lane l with state := .off, disablePending := false, measurement := none }
  rest     : t =
    { s with
      run := .halt, haltCause := cause, announce := [], haltEntered := true, advanceDue := false,
      backlogFlag := s.backlogFlag || !t.backlog.isEmpty,
      items := t.items, queue := t.queue, backlog := t.backlog, stations := t.stations, lanes := t.lanes }

end Sys2Proof.Machine
end

