-- ==== Sys2Proof/Certificates/Slice0/Obligations.lean ====
section
/-! DEFINITION. The statements for the provers. A mailbox command's statement writes the state it leaves as an update of the
state before, so everything it does not name is unchanged. `s.inReset = false` says that the part is not held in reset. A command
or an access that follows a tick comes after what the tick has made (log 1): it is sent at `s₀` and finds `finishTick s₀`. -/

open Sys2Proof Sys2Proof.Machine

/-! ### The step and the queue -/

/-- A step takes the command at the front of the queue and answers what `exec` answers on the state with the queue's rest. -/
def Obligations.StepTakesFrontCommand : Prop :=
  ∀ (c : Instr) (rest : List Instr) (s : State), step { s with pending := c :: rest } = exec c { s with pending := rest }

/-- The model's choice (log 6): with no command waiting, one CLKIN period passes, counted by the divider count while it is
not 0 and the part is not held in reset. -/
def Obligations.EmptyQueueCountsOneClkin : Prop :=
  ∀ s : State, s.pending = [] →
    step s = .next { s with divCount := if s.inReset = true ∨ s.divCount = 0 then s.divCount else s.divCount - 1 }

/-- No command stops the part, and none adds or removes a waiting command (logs 1, 7 and 19). -/
def Obligations.EveryCommandAnswersAndKeepsTheQueue : Prop :=
  ∀ (c : Instr) (s : State), ∃ t, exec c s = .next t ∧ t.pending = s.pending

/-! ### Reset -/

/-- RESET is taken on four low samples or more: every item of state takes its reset value and the part is held in reset; a
shorter low pulse has no effect. RESET_RELEASE ends it, with every item at its reset value. While the part is held in reset
no tick, no bus access and no other event is taken, every ejector output is low, the interrupt request is not asserted, and the
data lines are not driven.
The commands that wait are the model's own and are kept (log 7); `readData` is the model's own and resets to 0 (log 10). -/
def Obligations.ResetIsTakenHeldAndReleased : Prop :=
  (∀ (n : Nat) (s : State), 4 ≤ n → exec (.reset n) s = .next { State.reset with pending := s.pending, inReset := true }) ∧
  (∀ (n : Nat) (s : State), n < 4 → exec (.reset n) s = .next s) ∧
  (∀ s : State, s.inReset = true → exec .resetRelease s = .next { State.reset with pending := s.pending }) ∧
  (∀ s : State, s.inReset = false → exec .resetRelease s = .next s) ∧
  ∀ s : State, s.inReset = true →
    (∀ c : Instr, (∀ n, c ≠ .reset n) → c ≠ .resetRelease → exec c s = .next s) ∧
    (∀ n, s.outputPin n = .low) ∧ s.interruptRequest = false ∧
    ∀ (start : State) (a : BitVec 6) (x : Strobes), dataLines start s a x = none

/-- The state after reset holds the values of Table 9.11, and the window reads as Table 9.1 says: STATUS 0x04, FREE_COUNT
0x20, every other location 0x00. -/
def Obligations.ResetStateReadsAsTheTables : Prop :=
  (∀ a : BitVec 6, State.reset.readLocation a = if a = 0x0E then 0x04 else if a = 0x14 then 0x20 else 0x00) ∧
  State.reset.timebase = { source := .encoder, divider := 100, encDepth := 2, encEdge := .rising, rate := 10 } ∧
  State.reset.p = 0 ∧ State.reset.k = 10 ∧ State.reset.divCount = 100 ∧
  State.reset.encFilter = ⟨.low, 0⟩ ∧ State.reset.xstopFilter = ⟨.low, 0⟩ ∧
  State.reset.run = .idle ∧ State.reset.haltCause = .none ∧
  (∀ l, State.reset.lane l =
    { record := { enable := false, polarity := .activeHigh, depth := 2,
                  item := { minLength := 1, maxLength := 65534, decisionDistance := 65535, defaultKind := .pass,
                            defaultStation := 0, defaultProfile := 0, defaultPriority := 7 } },
      state := .off, polarity := .activeHigh, depth := 2, settingsPending := false, disablePending := false,
      measurement := none, missed := 0, filter := ⟨.low, 0⟩, edge := none }) ∧
  State.reset.items = [] ∧ State.reset.announce = [] ∧ State.reset.tc = 0 ∧ State.reset.freeThreshold = 0 ∧
  (∀ n, State.reset.station n =
    { record := { enable := false, polarity := .activeHigh, lane := 0, offset := 1000, guard := 100, recovery := 0,
                  maxOn := 1000 },
      list := [], guardMark := none, engine := .disabled, tickLate := false }) ∧
  (∀ n, State.reset.profile n = { leadShift := 0, widthKind := .time, timeWidth := 10, spanExtra := 0 }) ∧
  State.reset.queue = [] ∧ State.reset.backlog = [] ∧ State.reset.flagBits = 0 ∧ State.reset.enables = 0

/-! ### The register window -/

/-- The codes of Table 9.2; every other byte names no command and is refused with BAD_COMMAND, with CMD holding the byte
and nothing else changed (R153). -/
def Obligations.CodesOutsideTheTableAreRefused : Prop :=
  (∀ b : Byte, HostCommand.ofCode b = none ↔
    b ∉ ([0x01, 0x02, 0x03, 0x04, 0x05, 0x10, 0x11, 0x12, 0x13, 0x14, 0x15, 0x20, 0x21, 0x22, 0x23, 0x24, 0x30, 0x31,
          0x40, 0x41, 0x42] : List Byte)) ∧
  ([0x01, 0x02, 0x03, 0x04, 0x05, 0x10, 0x11, 0x12, 0x13, 0x14, 0x15, 0x20, 0x21, 0x22, 0x23, 0x24, 0x30, 0x31,
      0x40, 0x41, 0x42] : List Byte).map HostCommand.ofCode =
    [some .start, some .drain, some .halt, some .resume, some .clearLine, some .setTimebase, some .setPosition,
     some .setLane, some .setStation, some .setProfile, some .setFreeThreshold, some .readLane, some .readStation,
     some .readProfile, some .readItem, some .readTimebase, some .nextDetection, some .nextOutcome, some .verdict,
     some .pass, some .abort] ∧
  ∀ (b : Byte) (s : State), s.inReset = false → HostCommand.ofCode b = none →
    exec (.badCommand b) s = .next { s with cmd := b, result := .badCommand } ∧
    (∀ y : BusCycle, y.rdLow = false → 2 ≤ y.periods →
      exec (.registerWrite 0x00 b y) s = .next { s with cmd := b, result := .badCommand })

/-- A write cycle of a command's code to CMD is the row of that command (R152). -/
def Obligations.CmdWriteTakesTheNamedCommand : Prop :=
  ∀ (i : Instr) (c : HostCommand) (s : State) (y : BusCycle),
    i.hostCommand = some c → y.rdLow = false → 2 ≤ y.periods →
      exec (.registerWrite 0x00 c.code y) s = exec i s

/-- A write cycle of 2 CLKIN periods or more, with RD high, delivers its byte: PARAM0 to PARAM11 store it, IRQ_FLAGS and
IRQ_ENABLE act as their rows do, and every other location but CMD ignores it; any other cycle delivers nothing (R149 to
R151). The parameter bytes change only by a write of theirs and by reset (R151). While CS and RD are low and WR is high the data
lines carry the byte that the location held when the read was taken; otherwise they are not driven (R149). -/
def Obligations.RegisterWritesActByLocation : Prop :=
  (∀ (s : State) (b : Byte), s.inReset = false →
    (∀ n : Fin 12, exec (.paramWrite n b) s = .next { s with params := s.params.set n.val b } ∧
      ({ s with params := s.params.set n.val b } : State).readLocation (BitVec.ofNat 6 (n.val + 2)) = b) ∧
    (∀ (a : BitVec 6) (y : BusCycle), y.rdLow = true ∨ y.periods < 2 → exec (.registerWrite a b y) s = .next s) ∧
    ∀ (a : BitVec 6) (y : BusCycle), y.rdLow = false → 2 ≤ y.periods →
      (∀ n : Fin 12, a = BitVec.ofNat 6 (n.val + 2) →
        exec (.registerWrite a b y) s = .next { s with params := s.params.set n.val b }) ∧
      (a = 0x0F → exec (.registerWrite a b y) s = exec (.irqFlagsWrite b) s) ∧
      (a = 0x10 → exec (.registerWrite a b y) s = .next { s with enables := b.setWidth 7 }) ∧
      (a = 0x01 ∨ a = 0x0E ∨ 0x11 ≤ a.toNat → exec (.registerWrite a b y) s = .next s)) ∧
  (∀ (start now : State) (a : BitVec 6) (x : Strobes),
    (x.cs = .low ∧ x.rd = .low ∧ x.wr = .high → start.inReset = false → now.inReset = false →
      dataLines start now a x = some (start.readLocation a)) ∧
    (x.cs = .high ∨ x.rd = .high ∨ x.wr = .low → dataLines start now a x = none)) ∧
  ∀ (c : Instr) (s t : State), exec c s = .next t → (∀ n b, c ≠ .paramWrite n b) →
    (∀ a b y, c = .registerWrite a b y → a.toNat < 0x02 ∨ 0x0D < a.toNat) → (∀ n, c ≠ .reset n) → c ≠ .resetRelease →
      t.params = s.params

/-- A read of POS0 returns bits 0 to 7 of P (held in `readData`, log 10) and latches bits 8 to 23 of the same value; POS1 and
POS2 read the latch; writes to the three are ignored; the latch changes at no other command but reset, and resets to 0 (R15). A
read that follows a tick comes after what the tick has made (the model's order, log 1). -/
def Obligations.Pos0ReadLatchesThePosition : Prop :=
  (∀ s₀ s : State, s₀.inReset = false → s = finishTick s₀ →
    exec .pos0Read s₀ =
      .next { s with readData := s.p.extractLsb' 0 8, latchMid := s.p.extractLsb' 8 8, latchHigh := s.p.extractLsb' 16 8 } ∧
    s.readLocation 0x11 = s.p.extractLsb' 0 8 ∧ s.readLocation 0x12 = s.latchMid ∧ s.readLocation 0x13 = s.latchHigh ∧
    ∀ (a : BitVec 6) (b : Byte) (y : BusCycle), a = 0x11 ∨ a = 0x12 ∨ a = 0x13 →
      exec (.registerWrite a b y) s = .next s) ∧
  (∀ (c : Instr) (s t : State), exec c s = .next t → c ≠ .pos0Read → (∀ n, c ≠ .reset n) → c ≠ .resetRelease →
    t.latchMid = s.latchMid ∧ t.latchHigh = s.latchHigh) ∧
  State.reset.latchMid = 0 ∧ State.reset.latchHigh = 0

/-- IRQ_ENABLE stores bits 0 to 6, reads them back with bit 7 at 0, and changes only by its own write and by reset (R163). -/
def Obligations.EnablesAreStoredAndKept : Prop :=
  (∀ (b : Byte) (s : State), s.inReset = false →
    exec (.irqEnableWrite b) s = .next { s with enables := b.setWidth 7 } ∧
    ({ s with enables := b.setWidth 7 } : State).readLocation 0x10 = b &&& 0x7F) ∧
  ∀ (c : Instr) (s t : State), exec c s = .next t → (∀ b, c ≠ .irqEnableWrite b) →
    (∀ b y, c ≠ .registerWrite 0x10 b y) → (∀ n, c ≠ .reset n) → c ≠ .resetRelease → t.enables = s.enables

/-- A write of IRQ_FLAGS clears each sticky flag whose bit is 1 and whose hold condition does not stand, in one event, and does
nothing else; a sticky flag at 1 falls to 0 at no other command but reset (R166). A write that follows a tick comes after what
the tick has made (the model's order, log 1). -/
def Obligations.StickyFlagsClearByWriteUnlessHeld : Prop :=
  (∀ (b : Byte) (s₀ s : State), s₀.inReset = false → s = finishTick s₀ →
    exec (.irqFlagsWrite b) s₀ = .next
      { s with
        laneAlert := if b.getLsbD 2 = true ∧ ¬ (∃ l, (s.lane l).state = .jammed) then false else s.laneAlert,
        haltEntered := if b.getLsbD 3 = true then false else s.haltEntered,
        drainDone := if b.getLsbD 4 = true then false else s.drainDone,
        freeLow := if b.getLsbD 5 = true ∧ ¬ (32 - s.items.length < s.freeThreshold.toNat) then false else s.freeLow,
        backlogFlag := if b.getLsbD 6 = true ∧ s.backlog = [] then false else s.backlogFlag }) ∧
  ∀ (c : Instr) (s t : State), exec c s = .next t → (∀ b, c ≠ .irqFlagsWrite b) → (∀ b y, c ≠ .registerWrite 0x0F b y) →
    (∀ n, c ≠ .reset n) → c ≠ .resetRelease →
      (s.laneAlert = true → t.laneAlert = true) ∧ (s.haltEntered = true → t.haltEntered = true) ∧
      (s.drainDone = true → t.drainDone = true) ∧ (s.freeLow = true → t.freeLow = true) ∧
      (s.backlogFlag = true → t.backlogFlag = true)

/-- The interrupt request is asserted exactly while some flag and its enable are both 1, and never while the part is held in
reset (R164); DETECTION_READY and OUTCOME_READY follow their lists (R165). -/
def Obligations.RequestFollowsFlagsAndEnables : Prop :=
  ∀ s : State,
    s.interruptRequest = true ↔
      s.inReset = false ∧
        ((s.announce ≠ [] ∧ s.enables.getLsbD 0 = true) ∨ (s.queue ≠ [] ∧ s.enables.getLsbD 1 = true) ∨
         (s.laneAlert = true ∧ s.enables.getLsbD 2 = true) ∨ (s.haltEntered = true ∧ s.enables.getLsbD 3 = true) ∨
         (s.drainDone = true ∧ s.enables.getLsbD 4 = true) ∨ (s.freeLow = true ∧ s.enables.getLsbD 5 = true) ∨
         (s.backlogFlag = true ∧ s.enables.getLsbD 6 = true))

/-- The values of Tables 9.3, 9.7, 9.8 and 9.9, fields of several bytes low byte first, and what a read of each location gives in
every state (Tables 9.1 and 9.10). -/
def Obligations.CodesAreThoseOfTheTables : Prop :=
  [ResultCode.ok, .empty, .state, .param, .unknown, .stale, .notReady, .decided, .late, .wrongLane, .stationOff, .conflict,
      .inProgress, .busy, .badCommand, .stopped].map ResultCode.code =
    [0x00, 0x01, 0x02, 0x03, 0x04, 0x05, 0x06, 0x07, 0x08, 0x09, 0x0A, 0x0B, 0x0C, 0x0D, 0x0E, 0x0F] ∧
  [OutcomeCode.passed, .defaultPassed, .fired, .firedCut, .aborted, .bumped, .conflict, .collided, .missedWindow,
      .unroutable, .overlength, .halted].map OutcomeCode.code =
    [0x01, 0x02, 0x03, 0x04, 0x05, 0x06, 0x07, 0x08, 0x09, 0x0A, 0x0B, 0x0C] ∧
  [ItemState.measuring, .pending, .committed, .firing, .retired].map ItemState.code = [0x00, 0x01, 0x02, 0x03, 0x04] ∧
  [LaneState.off, .settling, .clear, .measuring, .jammed, .missing].map LaneState.code =
    [0x00, 0x01, 0x02, 0x03, 0x04, 0x05] ∧
  (∀ (q : Pulse) (c : Half), [Engine.disabled, .offReady, .on q, .recovery c].map Engine.code = [0x00, 0x01, 0x02, 0x03]) ∧
  (∀ lo hi : Byte, (halfOf lo hi).toNat = lo.toNat + 256 * hi.toNat) ∧
  (∀ lo mid hi : Byte, (posOf lo mid hi).toNat = lo.toNat + 256 * mid.toNat + 65536 * hi.toNat) ∧
  ∀ s : State,
    s.readLocation 0x00 = s.cmd ∧ s.readLocation 0x01 = s.result.code ∧
    (∀ n : Fin 12, s.readLocation (BitVec.ofNat 6 (n.val + 2)) = s.params[n.val]) ∧
    s.readLocation 0x0E =
      (match s.run with | .idle => 0 | .run => 1 | .drain => 2 | .halt => 3) + (if s.xstopFilter.q = .low then 4 else 0) +
        (match s.haltCause with | .none => 0 | .command => 16 | .xstop => 32) ∧
    s.readLocation 0x0F =
      (if s.announce = [] then 0 else 1) + (if s.queue = [] then 0 else 2) + (if s.laneAlert then 4 else 0) +
        (if s.haltEntered then 8 else 0) + (if s.drainDone then 16 else 0) + (if s.freeLow then 32 else 0) +
        (if s.backlogFlag then 64 else 0) ∧
    s.readLocation 0x10 = s.enables.setWidth 8 ∧
    s.readLocation 0x11 = s.p.extractLsb' 0 8 ∧ s.readLocation 0x12 = s.latchMid ∧ s.readLocation 0x13 = s.latchHigh ∧
    s.readLocation 0x14 = BitVec.ofNat 8 (32 - s.items.length) ∧
    s.readLocation 0x15 = BitVec.ofNat 8 s.announce.length ∧ s.readLocation 0x16 = BitVec.ofNat 8 s.queue.length ∧
    s.readLocation 0x17 = s.outputLevels ∧
    (∀ n : Fin 16, s.readLocation (BitVec.ofNat 6 (n.val + 32)) = s.reply[n.val]) ∧
    ∀ a : BitVec 6, 0x18 ≤ a.toNat ∧ a.toNat ≤ 0x1F ∨ 0x30 ≤ a.toNat → s.readLocation a = 0

/-! ### Run control -/

/-- START by R17: the run state is tested first, then XSTOP; taken, the line runs, the halt cause is NONE, K is loaded, each
enabled lane enters SETTLING (deferred sensor fields come into force first, and a level that reads inactive makes it CLEAR in
the same event, R35), each disabled lane stays, and nothing else changes. A command that follows a tick comes after what the
tick has made (the model's order, log 1). -/
def Obligations.StartRunsTheLine : Prop :=
  ∀ s₀ s : State, s₀.inReset = false → s = finishTick s₀ →
    (s.run = .idle → s.xstopFilter.q = .high →
      ∃ ls : Vector Lane 4,
        exec .start s₀ = .next
          { s with run := .run, haltCause := .none, k := s.timebase.rate, lanes := ls, cmd := 0x01, result := .ok } ∧
        ∀ l : LaneNo,
          ((s.lane l).record.enable = false → ls[l.val] = s.lane l) ∧
          ((s.lane l).record.enable = true → (s.lane l).settingsPending = false →
            ls[l.val] = { s.lane l with
              state := if (s.lane l).filter.q = activeLevel (s.lane l).polarity then .settling else .clear }) ∧
          ((s.lane l).record.enable = true → (s.lane l).settingsPending = true →
            ls[l.val] = { s.lane l with
              polarity := (s.lane l).record.polarity, depth := (s.lane l).record.depth, settingsPending := false,
              filter := ⟨(s.lane l).filter.q,
                         if (s.lane l).depth = (s.lane l).record.depth then (s.lane l).filter.c else 0⟩,
              state := if (s.lane l).filter.q = activeLevel (s.lane l).record.polarity then .settling else .clear })) ∧
    (s.run = .idle → s.xstopFilter.q = .low → exec .start s₀ = .next { s with cmd := 0x01, result := .stopped }) ∧
    (s.run ≠ .idle → exec .start s₀ = .next { s with cmd := 0x01, result := .state })

/-- DRAIN and drain completion (R18, R19): DRAIN is taken in RUN and completes at once when no record is live; the check that
follows each end of a record in DRAIN completes the drain when no record is live, and else changes nothing. As a row of its own
the check has no effect where its condition does not stand (log 13). A command that follows a tick comes after what the tick has
made (the model's order, log 1). -/
def Obligations.DrainCompletesWithNoLiveRecord : Prop :=
  (∀ s₀ s : State, s₀.inReset = false → s = finishTick s₀ →
    (s.run = .run → s.someLive → exec .drain s₀ = .next { s with run := .drain, cmd := 0x02, result := .ok }) ∧
    (s.run = .run → ¬ s.someLive →
      exec .drain s₀ = .next
        { s with run := .idle, drainDone := true, advanceDue := false, cmd := 0x02, result := .ok,
                 lanes := s.lanes.map (fun x =>
                   { x with state := .off, disablePending := false, measurement := none }) }) ∧
    (s.run ≠ .run → exec .drain s₀ = .next { s with cmd := 0x02, result := .state })) ∧
  (∀ s : State, s.inReset = false → exec .drainCompletion s = .next (drainCheck s)) ∧
  (∀ s : State, s.run = .drain → ¬ s.someLive →
    drainCheck s =
      { s with run := .idle, drainDone := true, advanceDue := false,
               lanes := s.lanes.map (fun x => { x with state := .off, disablePending := false, measurement := none }) }) ∧
  ∀ s : State, s.run ≠ .drain ∨ s.someLive → drainCheck s = s

/-- In DRAIN a live record exists: every command that ends the last one also completes the drain (R19). -/
def Obligations.DrainLastsOnlyWhileRecordsLive : Prop :=
  ∀ s t : State, s.Sound → s.drainLaw → step s = .next t → t.drainLaw

/-- HALT by R20 and R22, after what a tick before it has made (log 1): in RUN or DRAIN what is due is taken first (log 17); if
the line still runs it makes the halt entry with cause COMMAND, and else it is refused with STATE, as in IDLE or HALT. -/
def Obligations.HaltEndsEveryLiveRecord : Prop :=
  ∀ s₀ s a : State, s₀.inReset = false → s = finishTick s₀ → a = settleDue s →
    (s.run = .run ∨ s.run = .drain → a.run = .run ∨ a.run = .drain → a.Sound →
      ∃ u : State, u.HaltedFrom a .command ∧ exec .halt s₀ = .next { u with cmd := 0x03, result := .ok }) ∧
    (s.run = .run ∨ s.run = .drain → a.run = .idle ∨ a.run = .halt →
      exec .halt s₀ = .next { a with cmd := 0x03, result := .state }) ∧
    (s.run = .idle ∨ s.run = .halt → exec .halt s₀ = .next { s with cmd := 0x03, result := .state })

/-- The qualified XSTOP level by R21 and R22. The row takes the change that the last tick has made and that waits, or, where
none waits, stands for a later tick and comes after what the last one has made (log 3). Becoming active (LOW) in RUN or DRAIN,
what is due is taken first (log 17), and if the line still runs it makes the halt entry with cause XSTOP; in IDLE or HALT only the
level changes; becoming inactive changes only the level in every run state. -/
def Obligations.XstopHaltsARunningLine : Prop :=
  ∀ s₀ : State, s₀.inReset = false →
    (∀ s a b : State, s = (if s₀.xstopEdge = some .falling then s₀ else finishTick s₀) →
      a = { s with xstopFilter := ⟨.low, if s.xstopFilter.q = .low then s.xstopFilter.c else 0⟩, xstopEdge := none } →
      b = settleDue a →
      (s.run = .run ∨ s.run = .drain → b.run = .run ∨ b.run = .drain → b.Sound →
        ∃ u : State, u.HaltedFrom b .xstop ∧ exec .xstopActive s₀ = .next u) ∧
      (s.run = .run ∨ s.run = .drain → b.run = .idle ∨ b.run = .halt → exec .xstopActive s₀ = .next b) ∧
      (s.run = .idle ∨ s.run = .halt → exec .xstopActive s₀ = .next a)) ∧
    ∀ s : State, s = (if s₀.xstopEdge = some .rising then s₀ else finishTick s₀) →
      exec .xstopInactive s₀ = .next
        { s with xstopFilter := ⟨.high, if s.xstopFilter.q = .high then s.xstopFilter.c else 0⟩, xstopEdge := none }

/-- RESUME by R25: the run state is tested first, then XSTOP; taken, the line is IDLE as the halt left it. A command that
follows a tick comes after what the tick has made (the model's order, log 1). -/
def Obligations.ResumeLeavesHaltForIdle : Prop :=
  ∀ s₀ s : State, s₀.inReset = false → s = finishTick s₀ →
    (s.run = .halt → s.xstopFilter.q = .high →
      exec .resume s₀ = .next { s with run := .idle, cmd := 0x04, result := .ok }) ∧
    (s.run = .halt → s.xstopFilter.q = .low → exec .resume s₀ = .next { s with cmd := 0x04, result := .stopped }) ∧
    (s.run ≠ .halt → exec .resume s₀ = .next { s with cmd := 0x04, result := .state })

/-- CLEAR_LINE by R26: in IDLE, where no record is live, queue, backlog and table become empty, TC and the missed counters 0,
and FREE_COUNT reads 32; elsewhere it is refused with STATE. A command that follows a tick comes after what the tick has made
(the model's order, log 1). -/
def Obligations.ClearLineEmptiesQueueAndBacklog : Prop :=
  ∀ s₀ s : State, s₀.inReset = false → s = finishTick s₀ →
    (s.run = .idle → s.Sound →
      ∃ t : State, exec .clearLine s₀ = .next t ∧
        t = { s with queue := [], backlog := [], items := [], tc := 0,
                     lanes := s.lanes.map (fun x => { x with missed := 0 }), cmd := 0x05, result := .ok } ∧
        t.readLocation 0x14 = 32) ∧
    (s.run ≠ .idle → exec .clearLine s₀ = .next { s with cmd := 0x05, result := .state })

/-! ### The timebase -/

/-- The level filter of R2: the three rows of its table, a depth change, and its reset value. -/
def Obligations.FilterFollowsItsTable : Prop :=
  (∀ (f : Filter) (n : Nat) (x : Level),
    (x = f.q → filterSample f n x = (⟨f.q, 0⟩, none)) ∧
    (x ≠ f.q → f.c + 1 < n → filterSample f n x = (⟨f.q, f.c + 1⟩, none)) ∧
    (f.q = .low → x = .high → f.c + 1 = n → filterSample f n x = (⟨.high, 0⟩, some .rising)) ∧
    (f.q = .high → x = .low → f.c + 1 = n → filterSample f n x = (⟨.low, 0⟩, some .falling)) ∧
    filterNewDepth f = ⟨f.q, 0⟩) ∧
  State.reset.encFilter = ⟨.low, 0⟩ ∧ State.reset.xstopFilter = ⟨.low, 0⟩ ∧ ∀ l, (State.reset.lane l).filter = ⟨.low, 0⟩

/-- A tick by R1: what the tick before has raised is taken first, in the model's order (log 2); then the divider count is loaded,
whatever it stands at (log 6), every filter samples its pin (R3, R4, R30), a qualified encoder edge makes an advance under
ENCODER in the direction of ENC_EDGE in RUN or DRAIN and else leaves nothing (R6), K counts under INTERNAL in RUN or DRAIN, and
at 0 is loaded with RATE and makes an advance (R7), each engine counts an on-tick (R123) or a recovery tick (R127) unless it
takes this tick after the advance (log 4), and nothing else changes. The advance waits for its row or for what comes next
(logs 1 and 14). -/
def Obligations.TickIsTakenByEveryUser : Prop :=
  ∀ (s₀ s : State) (pins : PinSamples) (late : BitVec 8) (running : Prop), s₀.inReset = false → s = settleAll s₀ → s.Sound →
    (running ↔ s.run = .run ∨ s.run = .drain) →
    ∃ t : State, exec (.tick pins late) s₀ = .next t ∧
      t.divCount = s.timebase.divider ∧
      t.encFilter = (filterSample s.encFilter s.timebase.encDepth.toNat pins.enc).1 ∧
      (t.xstopFilter, t.xstopEdge) = filterSample s.xstopFilter 2 pins.xstop ∧
      (∀ l : LaneNo, t.lane l =
        { s.lane l with
          filter := (filterSample (s.lane l).filter (s.lane l).depth.toNat pins.sns[l.val]).1,
          edge := (filterSample (s.lane l).filter (s.lane l).depth.toNat pins.sns[l.val]).2 }) ∧
      (s.timebase.source = .internal → running → s.k = 1 → t.k = s.timebase.rate) ∧
      (s.timebase.source = .internal → running → s.k ≠ 1 → t.k = s.k - 1) ∧
      (s.timebase.source = .encoder ∨ ¬ running → t.k = s.k) ∧
      (t.advanceDue = true ↔ running ∧
        (s.timebase.source = .internal ∧ s.k = 1 ∨
         s.timebase.source = .encoder ∧
           (filterSample s.encFilter s.timebase.encDepth.toNat pins.enc).2 = some s.timebase.encEdge)) ∧
      (∀ n : StationNo, late.getLsbD n.val = true → t.station n = { s.station n with tickLate := true }) ∧
      (∀ n : StationNo, late.getLsbD n.val = false →
        (∀ q, (s.station n).engine = .on q →
          t.station n = { s.station n with
            engine := .on { q with onTicks := if q.onTicks = 65535 then 65535 else q.onTicks + 1 } }) ∧
        (∀ c, (s.station n).engine = .recovery c → t.station n = { s.station n with engine := .recovery (c - 1) }) ∧
        ((s.station n).engine = .offReady ∨ (s.station n).engine = .disabled → t.station n = s.station n)) ∧
      t.items = s.items.map (fun r =>
        match r.state, r.verdict, r.firing with
        | .firing, some v, some f =>
          if late.getLsbD v.station.val = true then r
          else { r with firing := some { f with onTicks := if f.onTicks = 65535 then 65535 else f.onTicks + 1 } }
        | _, _, _ => r) ∧
      t = { s with divCount := t.divCount, encFilter := t.encFilter, advanceDue := t.advanceDue, xstopFilter := t.xstopFilter,
                   xstopEdge := t.xstopEdge, lanes := t.lanes, k := t.k, stations := t.stations, items := t.items }

/-- Advances come from the selected source, and the positions reached at the present P are taken before P moves on (log 2). The
advance that the last tick has made waits for its row; ENCODER_EDGE takes it under ENCODER in the direction of ENC_EDGE, and
without one stands for a later tick and comes after what the last one has made (log 3): by R6 it is one advance under ENCODER in
the direction of ENC_EDGE in RUN or DRAIN, and is discarded otherwise; the filter's level is the one the edge leads to.
RATE_COUNTDOWN_EXPIRY takes the advance that a tick has made under INTERNAL (R7, log 14); without one the countdown has not ended
and the row has no effect (log 5). What comes before an access or a later edge takes the waiting advance and every waiting edge, so
that none is lost or kept for later (log 1). -/
def Obligations.AdvancesComeFromTheSelectedSource : Prop :=
  (∀ (s₀ s : State) (d : EdgeDir) (f : Filter), s₀.inReset = false →
    s = (if s₀.advanceDue = true ∧ s₀.timebase.source = .encoder ∧ d = s₀.timebase.encEdge then s₀ else finishTick s₀) →
    f = (if s.encFilter.q = edgeLevel d then s.encFilter else ⟨edgeLevel d, 0⟩) →
    (∀ a : State, s.timebase.source = .encoder → d = s.timebase.encEdge → s.run = .run ∨ s.run = .drain →
      a = settleReached { s with encFilter := f, advanceDue := false } →
      (a.run = .run ∨ a.run = .drain → exec (.encoderEdge d) s₀ = .next { a with p := a.p + 1 }) ∧
      (a.run = .idle ∨ a.run = .halt → exec (.encoderEdge d) s₀ = .next a)) ∧
    (s.timebase.source = .internal ∨ d ≠ s.timebase.encEdge ∨ s.run = .idle ∨ s.run = .halt →
      exec (.encoderEdge d) s₀ = .next { s with encFilter := f, advanceDue := false })) ∧
  ∀ s : State, s.inReset = false →
    (∀ a : State, s.timebase.source = .internal → s.advanceDue = true → s.run = .run ∨ s.run = .drain →
      a = settleReached { s with advanceDue := false } →
      (a.run = .run ∨ a.run = .drain → exec .rateCountdownExpiry s = .next { a with p := a.p + 1 }) ∧
      (a.run = .idle ∨ a.run = .halt → exec .rateCountdownExpiry s = .next a)) ∧
    (s.timebase.source = .internal → s.advanceDue = true → s.run = .idle ∨ s.run = .halt →
      exec .rateCountdownExpiry s = .next { s with advanceDue := false }) ∧
    (s.timebase.source = .encoder ∨ s.advanceDue = false → exec .rateCountdownExpiry s = .next s) ∧
    (finishTick s).advanceDue = false ∧ (finishTick s).xstopEdge = none ∧ (∀ l, ((finishTick s).lane l).edge = none) ∧
    (∀ a : State, s.advanceDue = true → s.run = .run ∨ s.run = .drain →
      a = settleReached { settleEngines s with advanceDue := false } →
      (a.run = .run ∨ a.run = .drain → (finishTick s).p = s.p + 1) ∧
      (a.run = .idle ∨ a.run = .halt → (finishTick s).p = s.p)) ∧
    (s.advanceDue = false → (finishTick s).p = s.p) ∧
    (s.advanceDue = false → s.xstopEdge = none → (∀ l, (s.lane l).edge = none) → settleEngines s = s → finishTick s = s)

/-- P resets to 0, and otherwise holds its value, grows by one modulo 2^24 in RUN or DRAIN, or is loaded by a SET_POSITION taken
in IDLE (R5). A command that follows a tick comes after what the tick has made (the model's order, log 1). -/
def Obligations.PositionHoldsAdvancesOrIsLoaded : Prop :=
  State.reset.p = 0 ∧ (16777215 : Pos) + 1 = 0 ∧
  (∀ (n : Nat) (s t : State), 4 ≤ n → exec (.reset n) s = .next t → t.p = 0) ∧
  ∀ (c : Instr) (s t : State), exec c s = .next t → (∀ n, c ≠ .reset n) → c ≠ .resetRelease →
    t.p = s.p ∨
    ((s.run = .run ∨ s.run = .drain) ∧ t.p = s.p + 1) ∨
    ((finishTick s).run = .idle ∧ t.p = posOf s.params[0] s.params[1] s.params[2] ∧
      (c = .setPosition ∨ c = .badCommand 0x11 ∨ ∃ y, c = .registerWrite 0x00 0x11 y))

/-- SET_TIMEBASE by R11: refused with STATE outside IDLE and with PARAM when a parameter is out of its range; else the five
fields are replaced together. The encoder filter's run count becomes 0 and its level is kept (R12, log 11). A command that
follows a tick comes after what the tick has made (the model's order, log 1). -/
def Obligations.SetTimebaseReplacesTheRecord : Prop :=
  ∀ s₀ s : State, s₀.inReset = false → s = finishTick s₀ →
    (s.run ≠ .idle → exec .setTimebase s₀ = .next { s with cmd := 0x10, result := .state }) ∧
    (s.run = .idle →
      s.params[0].toNat ≤ 1 → 1 ≤ (halfOf s.params[1] s.params[2]).toNat → (halfOf s.params[1] s.params[2]).toNat ≤ 4096 →
      1 ≤ s.params[3].toNat → s.params[3].toNat ≤ 15 → s.params[4].toNat ≤ 1 →
      1 ≤ (halfOf s.params[5] s.params[6]).toNat →
      exec .setTimebase s₀ = .next
        { s with
          timebase := { source := if s.params[0] = 0 then .encoder else .internal,
                        divider := halfOf s.params[1] s.params[2], encDepth := s.params[3],
                        encEdge := if s.params[4] = 0 then .rising else .falling,
                        rate := halfOf s.params[5] s.params[6] },
          encFilter := ⟨s.encFilter.q, 0⟩, cmd := 0x10, result := .ok }) ∧
    (s.run = .idle →
      1 < s.params[0].toNat ∨ (halfOf s.params[1] s.params[2]).toNat < 1 ∨
        4096 < (halfOf s.params[1] s.params[2]).toNat ∨ s.params[3].toNat < 1 ∨ 15 < s.params[3].toNat ∨
        1 < s.params[4].toNat ∨ (halfOf s.params[5] s.params[6]).toNat < 1 →
      exec .setTimebase s₀ = .next { s with cmd := 0x10, result := .param })

/-- READ_TIMEBASE (R13) and READ_PROFILE (R104) write their replies of Table 9.9 over all sixteen bytes; READ_PROFILE refuses a
number outside 0 to 7 with PARAM. A command that follows a tick comes after what the tick has made (the model's order, log 1).
-/
def Obligations.TimebaseAndProfileAreReadBack : Prop :=
  ∀ s₀ s : State, s₀.inReset = false → s = finishTick s₀ →
    exec .readTimebase s₀ = .next
      { s with
        reply := #v[if s.timebase.source = .encoder then 0 else 1,
                    s.timebase.divider.extractLsb' 0 8, s.timebase.divider.extractLsb' 8 8, s.timebase.encDepth,
                    if s.timebase.encEdge = .rising then 0 else 1,
                    s.timebase.rate.extractLsb' 0 8, s.timebase.rate.extractLsb' 8 8, 0, 0, 0, 0, 0, 0, 0, 0, 0],
        cmd := 0x24, result := .ok } ∧
    (∀ n : ProfileNo, s.params[0].toNat = n.val →
      exec .readProfile s₀ = .next
        { s with
          reply := #v[if (s.profile n).widthKind = .time then 0 else 1,
                      (s.profile n).leadShift.extractLsb' 0 8, (s.profile n).leadShift.extractLsb' 8 8,
                      (s.profile n).timeWidth.extractLsb' 0 8, (s.profile n).timeWidth.extractLsb' 8 8,
                      (s.profile n).spanExtra.extractLsb' 0 8, (s.profile n).spanExtra.extractLsb' 8 8,
                      s.params[0], 0, 0, 0, 0, 0, 0, 0, 0],
          cmd := 0x22, result := .ok }) ∧
    (8 ≤ s.params[0].toNat → exec .readProfile s₀ = .next { s with cmd := 0x22, result := .param })

/-- SET_POSITION by R14: in IDLE P is loaded with any 24-bit value, no position is reached, and every guard mark becomes
invalid; elsewhere it is refused with STATE. A command that follows a tick comes after what the tick has made (the model's
order, log 1). -/
def Obligations.SetPositionLoadsTheCounter : Prop :=
  ∀ s₀ s : State, s₀.inReset = false → s = finishTick s₀ →
    (s.run = .idle →
      exec .setPosition s₀ = .next
        { s with p := posOf s.params[0] s.params[1] s.params[2],
                 stations := s.stations.map (fun x => { x with guardMark := none }), cmd := 0x11, result := .ok }) ∧
    (s.run ≠ .idle → exec .setPosition s₀ = .next { s with cmd := 0x11, result := .state })

/-! ### Lanes -/

/-- SET_LANE by R29: taken in every run state; when the lane number, every field and MIN_LENGTH ≤ MAX_LENGTH < DECISION_DISTANCE
pass, the ten fields are written together and only that lane changes; else PARAM and nothing changes. A command that follows a
tick comes after what the tick has made (the model's order, log 1). -/
def Obligations.SetLaneWritesTheWholeRecord : Prop :=
  ∀ s₀ s : State, s₀.inReset = false → s = finishTick s₀ →
    (∀ (l : LaneNo) (ds : StationNo) (dp : ProfileNo) (dq : Priority),
      s.params[0].toNat = l.val → s.params[1].toNat ≤ 7 → 1 ≤ s.params[2].toNat → s.params[2].toNat ≤ 15 →
      1 ≤ (halfOf s.params[3] s.params[4]).toNat →
      (halfOf s.params[3] s.params[4]).toNat ≤ (halfOf s.params[5] s.params[6]).toNat →
      (halfOf s.params[5] s.params[6]).toNat < (halfOf s.params[7] s.params[8]).toNat →
      s.params[9].toNat = ds.val → s.params[10].toNat = dp.val → s.params[11].toNat = dq.val →
      ∃ x : Lane,
        x.record =
          { enable := s.params[1].getLsbD 0,
            polarity := if s.params[1].getLsbD 1 then .activeLow else .activeHigh, depth := s.params[2],
            item := { minLength := halfOf s.params[3] s.params[4], maxLength := halfOf s.params[5] s.params[6],
                      decisionDistance := halfOf s.params[7] s.params[8],
                      defaultKind := if s.params[1].getLsbD 2 then .eject else .pass,
                      defaultStation := ds, defaultProfile := dp, defaultPriority := dq } } ∧
        exec .setLane s₀ = .next { s with lanes := s.lanes.set l.val x, cmd := 0x12, result := .ok }) ∧
    (4 ≤ s.params[0].toNat ∨ 7 < s.params[1].toNat ∨ s.params[2].toNat < 1 ∨ 15 < s.params[2].toNat ∨
        (halfOf s.params[3] s.params[4]).toNat < 1 ∨
        (halfOf s.params[5] s.params[6]).toNat < (halfOf s.params[3] s.params[4]).toNat ∨
        (halfOf s.params[7] s.params[8]).toNat ≤ (halfOf s.params[5] s.params[6]).toNat ∨
        8 ≤ s.params[9].toNat ∨ 8 ≤ s.params[10].toNat ∨ 8 ≤ s.params[11].toNat →
      exec .setLane s₀ = .next { s with cmd := 0x12, result := .param })

/-- The sensor fields of a SET_LANE that is taken come into force at once in OFF, SETTLING and CLEAR and are deferred in
MEASURING, JAMMED and MISSING (R31), and ENABLE then acts on the lane state (R32). The level read is the one after what a tick
before the command has made (log 1). That a CLEAR lane whose level reads active enters SETTLING also when POLARITY is unchanged is
the model's reading (log 12). -/
def Obligations.SetLaneActsByTheLaneState : Prop :=
  ∀ (s₀ s : State) (l : LaneNo) (r : LaneRecord) (x : Lane), s₀.inReset = false → s = finishTick s₀ →
    laneOf s.params = some (l, r) → x = s.lane l →
    ∃ y : Lane, exec .setLane s₀ = .next { s with lanes := s.lanes.set l.val y, cmd := 0x12, result := .ok } ∧
      y.record = r ∧ y.measurement = x.measurement ∧ y.missed = x.missed ∧ y.edge = x.edge ∧ y.filter.q = x.filter.q ∧
      (r.enable = true → y.disablePending = false) ∧
      (x.state = .off ∨ x.state = .settling ∨ x.state = .clear →
        y.polarity = r.polarity ∧ y.depth = r.depth ∧ y.settingsPending = false ∧
        y.filter.c = (if x.depth = r.depth then x.filter.c else 0)) ∧
      (x.state = .measuring ∨ x.state = .jammed ∨ x.state = .missing →
        y.state = x.state ∧ y.polarity = x.polarity ∧ y.depth = x.depth ∧ y.filter = x.filter ∧
        (y.settingsPending = true ↔ r.polarity ≠ x.polarity ∨ r.depth ≠ x.depth) ∧
        (r.enable = false → y.disablePending = true)) ∧
      (x.state = .off → (r.enable = false ∨ s.run ≠ .run) → y.state = .off ∧ y.disablePending = false) ∧
      (x.state = .settling ∨ x.state = .clear → r.enable = false → y.state = .off) ∧
      ((x.state = .off ∧ s.run = .run) ∨ x.state = .settling ∨ x.state = .clear → r.enable = true →
        y.state = if x.filter.q = activeLevel r.polarity then .settling else .clear)

/-- READ_LANE (R47) and READ_STATION (R101) write their replies of Table 9.9 over all sixteen bytes, an invalid guard mark as
position 0; a number out of range is refused with PARAM. A command that follows a tick comes after what the tick has made (the
model's order, log 1). -/
def Obligations.LaneAndStationAreReadBack : Prop :=
  ∀ s₀ s : State, s₀.inReset = false → s = finishTick s₀ →
    (∀ (l : LaneNo) (x : Lane), s.params[0].toNat = l.val → x = s.lane l →
      exec .readLane s₀ = .next
        { s with
          reply := #v[(if x.record.enable then 1 else 0) + (if x.record.polarity = .activeLow then 2 else 0) +
                        (if x.record.item.defaultKind = .eject then 4 else 0),
                      x.record.depth,
                      x.record.item.minLength.extractLsb' 0 8, x.record.item.minLength.extractLsb' 8 8,
                      x.record.item.maxLength.extractLsb' 0 8, x.record.item.maxLength.extractLsb' 8 8,
                      x.record.item.decisionDistance.extractLsb' 0 8, x.record.item.decisionDistance.extractLsb' 8 8,
                      BitVec.ofNat 8 x.record.item.defaultStation.val, BitVec.ofNat 8 x.record.item.defaultProfile.val,
                      BitVec.ofNat 8 x.record.item.defaultPriority.val, x.state.code, x.missed,
                      (if x.disablePending then 1 else 0) + (if x.settingsPending then 2 else 0) +
                        (if x.filter.q = activeLevel x.polarity then 4 else 0),
                      s.params[0], 0],
          cmd := 0x20, result := .ok }) ∧
    (4 ≤ s.params[0].toNat → exec .readLane s₀ = .next { s with cmd := 0x20, result := .param }) ∧
    (∀ (n : StationNo) (x : Station) (mark : Pos), s.params[0].toNat = n.val → x = s.station n →
      x.guardMark = some mark ∨ (x.guardMark = none ∧ mark = 0) →
      exec .readStation s₀ = .next
        { s with
          reply := #v[(if x.record.enable then 1 else 0) + (if x.record.polarity = .activeLow then 2 else 0),
                      BitVec.ofNat 8 x.record.lane.val,
                      x.record.offset.extractLsb' 0 8, x.record.offset.extractLsb' 8 8,
                      x.record.guard.extractLsb' 0 8, x.record.guard.extractLsb' 8 8,
                      x.record.recovery.extractLsb' 0 8, x.record.recovery.extractLsb' 8 8,
                      x.record.maxOn.extractLsb' 0 8, x.record.maxOn.extractLsb' 8 8,
                      x.engine.code, BitVec.ofNat 8 x.list.length, if x.guardMark = none then 0 else 1,
                      mark.extractLsb' 0 8, mark.extractLsb' 8 8, mark.extractLsb' 16 8],
          cmd := 0x21, result := .ok }) ∧
    (8 ≤ s.params[0].toNat → exec .readStation s₀ = .next { s with cmd := 0x21, result := .param })

/-- A lead edge in CLEAR in RUN with a free slot starts an item (R36, R53, R55, R57): the tag is the first from TC upward that
no record holds, the record takes P and the lane's item fields, TC becomes the tag plus one, FREE_LOW is set when the free
count is then below the threshold, and the lane measures with its jam position. An
edge that the last tick has not made stands for a later tick (log 3). -/
def Obligations.LeadEdgeStartsAnItem : Prop :=
  ∀ (s₀ s : State) (l : LaneNo) (x : Lane) (f : Filter), s₀.inReset = false →
    s = (if (s₀.lane l).edge = some (edgeTo (activeLevel (s₀.lane l).polarity)) then s₀ else finishTick s₀) →
    s.Sound → x = s.lane l →
    f = (if x.filter.q = activeLevel x.polarity then x.filter else ⟨activeLevel x.polarity, 0⟩) →
    x.state = .clear → s.run = .run → s.items.length < 32 →
    ∃ j < 32, ∃ tag : Byte, tag = s.tc + BitVec.ofNat 8 j ∧ (∀ r ∈ s.items, r.tag ≠ tag) ∧
      (∀ i < j, ∃ r ∈ s.items, r.tag = s.tc + BitVec.ofNat 8 i) ∧
      exec (.leadEdge l) s₀ = .next
        { s with
          items := s.items ++
            [{ tag, lane := l, lead := s.p, state := .measuring, snapshot := x.record.item,
               d := s.p + x.record.item.decisionDistance.setWidth 24,
               length := none, verdict := none, order := none, firing := none, outcome := none }],
          tc := tag + 1,
          freeLow := s.freeLow || decide (32 - (s.items.length + 1) < s.freeThreshold.toNat),
          lanes := s.lanes.set l.val
            { x with filter := f, edge := none, state := .measuring,
                     measurement := some { tag, jam := s.p + x.record.item.maxLength.setWidth 24 + 1 } } }

/-- A lead edge in CLEAR in RUN that finds no free slot starts no item: MISSING, the missed counter up by one and held at 255,
LANE_ALERT set (R37, R46). In any other lane state or run state it only leaves the level active (R34, R39). An edge that
the last tick has not made stands for a later tick (log 3). -/
def Obligations.LeadEdgeWithoutASlotIsMissed : Prop :=
  ∀ (s₀ s : State) (l : LaneNo) (x : Lane) (f : Filter), s₀.inReset = false →
    s = (if (s₀.lane l).edge = some (edgeTo (activeLevel (s₀.lane l).polarity)) then s₀ else finishTick s₀) →
    x = s.lane l →
    f = (if x.filter.q = activeLevel x.polarity then x.filter else ⟨activeLevel x.polarity, 0⟩) →
    (x.state = .clear → s.run = .run → s.items.length = 32 →
      exec (.leadEdge l) s₀ = .next
        { s with
          lanes := s.lanes.set l.val
            { x with filter := f, edge := none, state := .missing,
                     missed := if x.missed = 255 then 255 else x.missed + 1 },
          laneAlert := true }) ∧
    (x.state ≠ .clear ∨ s.run ≠ .run →
      exec (.leadEdge l) s₀ = .next { s with lanes := s.lanes.set l.val { x with filter := f, edge := none } })

/-- A trailing edge in MEASURING before the jam position ends the measurement (R40): the record takes its length, enters
PENDING and joins the announce list; a length below MIN_LENGTH frees its slot with no announcement and no outcome, and the
drain check follows (R41). The lane returns by R33. An edge that the last tick has not made stands for a later tick
(log 3). -/
def Obligations.TrailingEdgeEndsTheMeasurement : Prop :=
  ∀ (s₀ s : State) (l : LaneNo) (x y : Lane) (f : Filter) (m : Measurement) (r : ItemRecord) (len : Half),
    s₀.inReset = false →
    s = (if (s₀.lane l).edge = some (edgeTo (inactiveLevel (s₀.lane l).polarity)) then s₀ else finishTick s₀) →
    s.Sound → x = s.lane l →
    f = (if x.filter.q = inactiveLevel x.polarity then x.filter else ⟨inactiveLevel x.polarity, 0⟩) →
    y = { x with filter := f, edge := none } →
    x.state = .measuring → x.measurement = some m → r ∈ s.items → r.tag = m.tag → m.jam ≠ s.p →
    len.toNat = (s.p - r.lead).toNat →
    (r.snapshot.minLength.toNat ≤ len.toNat →
      exec (.trailingEdge l) s₀ = .next
        { s with
          items := s.items.map (fun z => if z.tag = m.tag then { z with length := some len, state := .pending } else z),
          announce := s.announce ++ [m.tag], lanes := s.lanes.set l.val y.return }) ∧
    (len.toNat < r.snapshot.minLength.toNat →
      exec (.trailingEdge l) s₀ = .next (drainCheck
        { s with items := s.items.filter (fun z => z.tag != m.tag), lanes := s.lanes.set l.val y.return }))

/-- The return of a lane that leaves an object chooses its state in the order of R33; and a trailing edge moves SETTLING to
CLEAR (R35), returns JAMMED and MISSING (R44, R45), and has no effect on OFF and CLEAR (R34, R39). An edge that the last tick
has not made stands for a later tick (log 3). -/
def Obligations.LaneReturnsWhenTheObjectLeaves : Prop :=
  (∀ x : Lane,
    (x.disablePending = true →
      x.return = { x with measurement := none, state := .off, disablePending := false }) ∧
    (x.disablePending = false → x.settingsPending = true →
      x.return = { x with
        measurement := none, polarity := x.record.polarity, depth := x.record.depth, settingsPending := false,
        filter := ⟨x.filter.q, if x.depth = x.record.depth then x.filter.c else 0⟩,
        state := if x.filter.q = activeLevel x.record.polarity then .settling else .clear }) ∧
    (x.disablePending = false → x.settingsPending = false →
      x.return = { x with measurement := none, state := .clear })) ∧
  ∀ (s₀ s : State) (l : LaneNo) (x y : Lane) (f : Filter), s₀.inReset = false →
    s = (if (s₀.lane l).edge = some (edgeTo (inactiveLevel (s₀.lane l).polarity)) then s₀ else finishTick s₀) →
    x = s.lane l →
    f = (if x.filter.q = inactiveLevel x.polarity then x.filter else ⟨inactiveLevel x.polarity, 0⟩) →
    y = { x with filter := f, edge := none } →
    (x.state = .settling →
      exec (.trailingEdge l) s₀ = .next { s with lanes := s.lanes.set l.val { y with state := .clear } }) ∧
    (x.state = .jammed ∨ x.state = .missing →
      exec (.trailingEdge l) s₀ = .next { s with lanes := s.lanes.set l.val y.return }) ∧
    (x.state = .off ∨ x.state = .clear → exec (.trailingEdge l) s₀ = .next { s with lanes := s.lanes.set l.val y })

/-- A jam by R42: when P is at the jam position of a MEASURING lane its item retires OVERLENGTH, the lane is JAMMED,
LANE_ALERT is set, and the drain check ends the event; otherwise nothing changes. -/
def Obligations.JamRetiresTheItemOverlength : Prop :=
  ∀ (s : State) (l : LaneNo), s.inReset = false →
    (∀ m, (s.lane l).state = .measuring → (s.lane l).measurement = some m → m.jam = s.p →
      exec (.jam l) s = .next (drainCheck
        { retire m.tag .overlength s with
          lanes := s.lanes.set l.val { s.lane l with state := .jammed, measurement := none }, laneAlert := true })) ∧
    ((s.lane l).state ≠ .measuring ∨ (∀ m, (s.lane l).measurement = some m → m.jam ≠ s.p) →
      exec (.jam l) s = .next s)

/-! ### The item table -/

/-- A retirement by R69, R70, R137 and R140: the record leaves the announce list, and its order its station list when it is
COMMITTED; with room in the queue and no backlog its outcome record enters the queue and its slot is free, else it stays as
RETIRED with its outcome and joins the tail of the backlog, BACKLOG being set when the backlog was empty (R170). Where no
live record holds the tag nothing retires (log 15). -/
def Obligations.RetirementHandsTheRecordOver : Prop :=
  ∀ (s : State) (t : Byte) (code : OutcomeCode),
    (s.liveRecord t = none → retire t code s = s) ∧
    ∀ (r : ItemRecord) (sts : Vector Station 8), s.liveRecord t = some r →
      (∀ n : StationNo, sts[n.val] =
        if r.state = .committed ∧ r.verdict.map Verdict.station = some n then
          { s.station n with list := (s.station n).list.filter (· != t) }
        else s.station n) →
      (s.queue.length < 16 → s.backlog = [] →
        retire t code s =
          { s with
            announce := s.announce.filter (· != t), stations := sts, items := s.items.filter (fun x => x.tag != t),
            queue := s.queue ++
              [{ tag := r.tag, lane := r.lane, outcome := code, lead := r.lead,
                 verdict := r.verdict.map (fun v => (v.source, v.station)), length := r.length, firing := r.firing }] }) ∧
      (16 ≤ s.queue.length ∨ s.backlog ≠ [] →
        retire t code s =
          { s with
            announce := s.announce.filter (· != t), stations := sts,
            items := s.items.map (fun x => if x.tag = t then { x with state := .retired, outcome := some code } else x),
            backlog := s.backlog ++ [t], backlogFlag := s.backlogFlag || s.backlog.isEmpty })

/-- NEXT_DETECTION by R64: the head of the announce list leaves it and its TAG, LANE, LEAD, STAMP and LENGTH fill the reply
window (Table 9.6); on an empty list the result is EMPTY and nothing else changes. A command that follows a tick comes after
what the tick has made (the model's order, log 1). -/
def Obligations.NextDetectionTakesTheHead : Prop :=
  ∀ s₀ s : State, s₀.inReset = false → s = finishTick s₀ →
    (∀ (t : Byte) (rest : List Byte), s.Sound → s.announce = t :: rest →
      ∃ r ∈ s.items, ∃ len : Half, r.tag = t ∧ r.length = some len ∧
        exec .nextDetection s₀ = .next
          { s with
            announce := rest,
            reply := #v[t, BitVec.ofNat 8 r.lane.val,
                        r.lead.extractLsb' 0 8, r.lead.extractLsb' 8 8, r.lead.extractLsb' 16 8,
                        r.lead.extractLsb' 0 8, r.lead.extractLsb' 8 8,
                        len.extractLsb' 0 8, len.extractLsb' 8 8, 0, 0, 0, 0, 0, 0, 0],
            cmd := 0x30, result := .ok }) ∧
    (s.announce = [] → exec .nextDetection s₀ = .next { s with cmd := 0x30, result := .empty })

/-- READ_ITEM by R67 with the reply of Table 9.8: the record that holds the tag, with its age, or UNKNOWN with nothing else
changed. A command that follows a tick comes after what the tick has made (the model's order, log 1). -/
def Obligations.ReadItemReportsTheRecord : Prop :=
  ∀ s₀ s : State, s₀.inReset = false → s = finishTick s₀ →
    (∀ (k : Nat) (r : ItemRecord), s.Sound → s.items[k]? = some r → r.tag = s.params[0] →
      exec .readItem s₀ = .next
        { s with
          reply := #v[r.tag, BitVec.ofNat 8 r.lane.val, r.state.code, BitVec.ofNat 8 k,
                      (if r.verdict.isSome then 1 else 0) + (if r.length.isSome then 2 else 0) +
                        (if r.order.isSome then 4 else 0) + (if r.firing.isSome then 8 else 0) +
                        (if r.outcome.isSome then 16 else 0),
                      r.lead.extractLsb' 0 8, r.lead.extractLsb' 8 8, r.lead.extractLsb' 16 8,
                      (r.length.getD 0).extractLsb' 0 8, (r.length.getD 0).extractLsb' 8 8,
                      ((r.order.map Order.onPos).getD r.d).extractLsb' 0 8,
                      ((r.order.map Order.onPos).getD r.d).extractLsb' 8 8,
                      ((r.order.map Order.onPos).getD r.d).extractLsb' 16 8,
                      ((r.verdict.map (fun v => BitVec.ofNat 8 v.station.val +
                        (if v.source = .defaulted then 128 else 0))).getD 0 : Byte),
                      ((r.verdict.map (fun v => BitVec.ofNat 8 (v.profile.val + 16 * v.priority.val))).getD 0 : Byte),
                      (r.outcome.map OutcomeCode.code).getD 0],
          cmd := 0x23, result := .ok }) ∧
    ((∀ r ∈ s.items, r.tag ≠ s.params[0]) → exec .readItem s₀ = .next { s with cmd := 0x23, result := .unknown })

/-- A deadline by R58 and R59: a PENDING record at its D with default PASS retires DEFAULT_PASSED, then the drain check; a
record that is not PENDING or not at its D, and a tag no live record holds, are not touched. -/
def Obligations.DeadlinePassesByDefault : Prop :=
  ∀ (s : State) (t : Byte), s.inReset = false →
    (∀ r, s.liveRecord t = some r → r.state = .pending → r.d = s.p → r.snapshot.defaultKind = .pass →
      exec (.deadline t) s = .next (drainCheck (retire t .defaultPassed s))) ∧
    (∀ r, s.liveRecord t = some r → r.state ≠ .pending ∨ r.d ≠ s.p → exec (.deadline t) s = .next s) ∧
    (s.liveRecord t = none → exec (.deadline t) s = .next s)

/-- A default EJECT by R60, in its order of tests: the record takes its verdict, then retires UNROUTABLE, MISSED_WINDOW or
CONFLICT with the drain check, or is placed by the station's arbitration. -/
def Obligations.DeadlineEjectsByDefault : Prop :=
  ∀ (s a : State) (t : Byte) (r : ItemRecord) (len : Half) (v : Verdict) (o : Order),
    s.inReset = false → s.liveRecord t = some r → r.state = .pending → r.d = s.p → r.snapshot.defaultKind = .eject →
    r.length = some len →
    v = { source := .defaulted, station := r.snapshot.defaultStation, profile := r.snapshot.defaultProfile,
          priority := r.snapshot.defaultPriority } →
    o = computeOrder r.lead len (s.station v.station).record.offset (s.profile v.profile) →
    a = { s with items := s.items.map (fun x => if x.tag = t then { x with verdict := some v } else x) } →
    ((s.station v.station).record.enable = false ∨ (s.station v.station).record.lane ≠ r.lane →
      exec (.deadline t) s = .next (drainCheck (retire t .unroutable a))) ∧
    ((s.station v.station).record.enable = true → (s.station v.station).record.lane = r.lane →
      (isAhead s.p o.onPos = false → exec (.deadline t) s = .next (drainCheck (retire t .missedWindow a))) ∧
      (isAhead s.p o.onPos = true → a.arbitrate t v o.onPos = none →
        exec (.deadline t) s = .next (drainCheck (retire t .conflict a))) ∧
      (∀ bumped, isAhead s.p o.onPos = true → a.arbitrate t v o.onPos = some bumped →
        exec (.deadline t) s = .next (place t v o bumped a)))

/-! ### Verdict commands -/

/-- The key checks of VERDICT, PASS and ABORT, before anything else (R75): UNKNOWN when no live record holds the tag, STALE when
the live record has another STAMP, the low 16 bits of its LEAD. Whatever refuses one of them, nothing but CMD and RESULT changes
(R76). A command that follows a tick comes after what the tick has made (the model's order, log 1). -/
def Obligations.KeyChecksComeFirstAndRefusalsChangeNothing : Prop :=
  (∀ (i : Instr) (c : HostCommand) (s₀ s : State), s₀.inReset = false → s = finishTick s₀ →
    (i = .verdict ∧ c = .verdict) ∨ (i = .pass ∧ c = .pass) ∨ (i = .abort ∧ c = .abort) →
    ((∀ r ∈ s.items, r.tag = s.params[0] → r.state = .retired) →
      exec i s₀ = .next { s with cmd := c.code, result := .unknown }) ∧
    (∀ r, s.liveRecord s.params[0] = some r → r.lead.setWidth 16 ≠ halfOf s.params[1] s.params[2] →
      exec i s₀ = .next { s with cmd := c.code, result := .stale })) ∧
  ∀ (i : Instr) (s₀ s t : State), s₀.inReset = false → s = finishTick s₀ → i = .verdict ∨ i = .pass ∨ i = .abort →
    exec i s₀ = .next t → t.result ≠ .ok →
    t = { s with cmd := t.cmd, result := t.result }

/-- VERDICT with a good key, in the order of its tests: NOT_READY in MEASURING, DECIDED or LATE by the source in COMMITTED and
FIRING (R77); in PENDING, PARAM, STATION_OFF, WRONG_LANE (R78), LATE when the on position is not ahead of P (R79), and CONFLICT
when the arbitration is lost (R80). A command that follows a tick comes after what the tick has made (the model's order, log 1).
-/
def Obligations.VerdictIsTestedInOrder : Prop :=
  ∀ (s₀ s : State) (r : ItemRecord) (refused : ResultCode → State), s₀.inReset = false → s = finishTick s₀ →
    s.liveRecord s.params[0] = some r → r.lead.setWidth 16 = halfOf s.params[1] s.params[2] →
    (∀ c, refused c = { s with cmd := 0x40, result := c }) →
    (r.state = .measuring → exec .verdict s₀ = .next (refused .notReady)) ∧
    (∀ w, r.state = .committed ∨ r.state = .firing → r.verdict = some w →
      exec .verdict s₀ = .next (refused (if w.source = .commanded then .decided else .late))) ∧
    (r.state = .pending → 8 ≤ s.params[3].toNat ∨ 8 ≤ s.params[4].toNat ∨ 8 ≤ s.params[5].toNat →
      exec .verdict s₀ = .next (refused .param)) ∧
    ∀ (v : Verdict) (len : Half) (o : Order), r.state = .pending → v.source = .commanded →
      s.params[3].toNat = v.station.val → s.params[4].toNat = v.profile.val → s.params[5].toNat = v.priority.val →
      ((s.station v.station).record.enable = false → exec .verdict s₀ = .next (refused .stationOff)) ∧
      ((s.station v.station).record.enable = true → (s.station v.station).record.lane ≠ r.lane →
        exec .verdict s₀ = .next (refused .wrongLane)) ∧
      ((s.station v.station).record.enable = true → (s.station v.station).record.lane = r.lane → r.length = some len →
        o = computeOrder r.lead len (s.station v.station).record.offset (s.profile v.profile) →
        (isAhead s.p o.onPos = false → exec .verdict s₀ = .next (refused .late)) ∧
        (isAhead s.p o.onPos = true → s.arbitrate r.tag v o.onPos = none →
          exec .verdict s₀ = .next (refused .conflict)))

/-- A VERDICT that passes every test and wins its arbitration is placed and answers OK (R81). A command that follows a tick
comes after what the tick has made (the model's order, log 1). -/
def Obligations.VerdictCommitsTheWinner : Prop :=
  ∀ (s₀ s : State) (r : ItemRecord) (v : Verdict) (len : Half) (o : Order) (bumped : List Byte), s₀.inReset = false →
    s = finishTick s₀ →
    s.liveRecord s.params[0] = some r → r.lead.setWidth 16 = halfOf s.params[1] s.params[2] → r.state = .pending →
    v.source = .commanded → s.params[3].toNat = v.station.val → s.params[4].toNat = v.profile.val →
    s.params[5].toNat = v.priority.val → (s.station v.station).record.enable = true →
    (s.station v.station).record.lane = r.lane → r.length = some len →
    o = computeOrder r.lead len (s.station v.station).record.offset (s.profile v.profile) →
    isAhead s.p o.onPos = true → s.arbitrate r.tag v o.onPos = some bumped →
    exec .verdict s₀ = .next { place r.tag v o bumped s with cmd := 0x40, result := .ok }

/-- A placement by R81 and R114: each bumped order's record retires BUMPED, one after the other, each with the drain check;
then the record leaves the announce list, takes VERDICT and ORDER, becomes COMMITTED, and its order stands in the station
list after the nearer orders and before the first order that is not nearer. -/
def Obligations.PlacementBumpsThenCommits : Prop :=
  ∀ (s u : State) (t : Byte) (v : Verdict) (o : Order) (bumped : List Byte),
    u = bumped.foldl (fun a x => drainCheck (retire x .bumped a)) s →
    ∃ before after : List Byte,
      (u.station v.station).list = before ++ after ∧
      (∀ x ∈ before, ∀ q, u.onPosOf x = some q → aheadDist u.p q < aheadDist u.p o.onPos) ∧
      (∀ x, after.head? = some x → ∃ q, u.onPosOf x = some q ∧ aheadDist u.p o.onPos ≤ aheadDist u.p q) ∧
      place t v o bumped s =
        { u with
          announce := u.announce.filter (· != t),
          stations := u.stations.set v.station.val { u.station v.station with list := before ++ t :: after },
          items := u.items.map (fun x =>
            if x.tag = t then { x with verdict := some v, order := some o, state := .committed } else x) }

/-- PASS by R82 and R83, ABORT by R84 to R86, for a record whose key is good: PENDING retires PASSED or ABORTED, a COMMITTED
record retires ABORTED with its order off its station list, each with the drain check; every other state refuses. A command that
follows a tick comes after what the tick has made (the model's order, log 1). -/
def Obligations.PassAndAbortRetireOrRefuse : Prop :=
  ∀ (s₀ s : State) (r : ItemRecord), s₀.inReset = false → s = finishTick s₀ →
    s.liveRecord s.params[0] = some r → r.lead.setWidth 16 = halfOf s.params[1] s.params[2] →
    (r.state = .measuring → exec .pass s₀ = .next { s with cmd := 0x41, result := .notReady } ∧
      exec .abort s₀ = .next { s with cmd := 0x42, result := .notReady }) ∧
    (r.state = .pending →
      exec .pass s₀ = .next { drainCheck (retire r.tag .passed s) with cmd := 0x41, result := .ok } ∧
      exec .abort s₀ = .next { drainCheck (retire r.tag .aborted s) with cmd := 0x42, result := .ok }) ∧
    (∀ w, r.state = .committed ∨ r.state = .firing → r.verdict = some w →
      exec .pass s₀ = .next { s with cmd := 0x41, result := if w.source = .commanded then .decided else .late }) ∧
    (r.state = .committed →
      exec .abort s₀ = .next { drainCheck (retire r.tag .aborted s) with cmd := 0x42, result := .ok }) ∧
    (r.state = .firing → exec .abort s₀ = .next { s with cmd := 0x42, result := .inProgress })

/-! ### Stations and profiles -/

/-- SET_STATION by R98 and R99: PARAM when a parameter is out of range; BUSY while the list holds an order or the engine is ON
or in RECOVERY; else the seven fields are written together, ENABLE sets the engine, and list and guard mark are kept. A
station's pin is at the active level of its polarity while the engine is ON and at the inactive level otherwise, so the pin
follows the polarity just written; OUTPUT_LEVELS shows the pins. A command that follows a tick comes after what the tick has
made (the model's order, log 1). -/
def Obligations.SetStationWritesAFreeStation : Prop :=
  (∀ s₀ s : State, s₀.inReset = false → s = finishTick s₀ →
    (∀ (n : StationNo) (l : LaneNo) (x : Station), x = s.station n →
      s.params[0].toNat = n.val → s.params[1].toNat ≤ 3 → s.params[2].toNat = l.val →
      1 ≤ (halfOf s.params[3] s.params[4]).toNat → 1 ≤ (halfOf s.params[5] s.params[6]).toNat →
      1 ≤ (halfOf s.params[9] s.params[10]).toNat →
      (x.list ≠ [] ∨ (∃ q, x.engine = .on q) ∨ (∃ c, x.engine = .recovery c) →
        exec .setStation s₀ = .next { s with cmd := 0x13, result := .busy }) ∧
      (x.list = [] → x.engine = .disabled ∨ x.engine = .offReady →
        exec .setStation s₀ = .next
          { s with
            stations := s.stations.set n.val
              { x with
                record := { enable := s.params[1].getLsbD 0,
                            polarity := if s.params[1].getLsbD 1 then .activeLow else .activeHigh, lane := l,
                            offset := halfOf s.params[3] s.params[4], guard := halfOf s.params[5] s.params[6],
                            recovery := halfOf s.params[7] s.params[8], maxOn := halfOf s.params[9] s.params[10] },
                engine := if s.params[1].getLsbD 0 then .offReady else .disabled },
            cmd := 0x13, result := .ok })) ∧
    (8 ≤ s.params[0].toNat ∨ 3 < s.params[1].toNat ∨ 4 ≤ s.params[2].toNat ∨
        (halfOf s.params[3] s.params[4]).toNat < 1 ∨ (halfOf s.params[5] s.params[6]).toNat < 1 ∨
        (halfOf s.params[9] s.params[10]).toNat < 1 →
      exec .setStation s₀ = .next { s with cmd := 0x13, result := .param })) ∧
  ∀ (s : State) (n : StationNo), s.inReset = false →
    ((∃ q, (s.station n).engine = .on q) → s.outputPin n = activeLevel (s.station n).record.polarity) ∧
    ((∀ q, (s.station n).engine ≠ .on q) → s.outputPin n = inactiveLevel (s.station n).record.polarity) ∧
    (s.outputLevels.getLsbD n.val = true ↔ s.outputPin n = .high) ∧ s.readLocation 0x17 = s.outputLevels

/-- SET_PROFILE by R103: taken whatever the state; the four fields are written together, or PARAM and nothing is changed.
SET_FREE_THRESHOLD by R73: 0 to 31 is written with OK, 32 to 255 refused with PARAM, FREE_LOW neither set nor cleared; it resets
to 0 and changes at no other command. A command that follows a tick comes after what the tick has made (the model's order, log
1). -/
def Obligations.ProfileAndThresholdAreSetInRange : Prop :=
  (∀ s₀ s : State, s₀.inReset = false → s = finishTick s₀ →
    (∀ n : ProfileNo, s.params[0].toNat = n.val → s.params[1].toNat ≤ 1 →
      -2048 ≤ (halfOf s.params[2] s.params[3]).toInt → (halfOf s.params[2] s.params[3]).toInt ≤ 2047 →
      1 ≤ (halfOf s.params[4] s.params[5]).toNat →
      -2048 ≤ (halfOf s.params[6] s.params[7]).toInt → (halfOf s.params[6] s.params[7]).toInt ≤ 2047 →
      exec .setProfile s₀ = .next
        { s with
          profiles := s.profiles.set n.val
            { leadShift := halfOf s.params[2] s.params[3], widthKind := if s.params[1] = 0 then .time else .span,
              timeWidth := halfOf s.params[4] s.params[5], spanExtra := halfOf s.params[6] s.params[7] },
          cmd := 0x14, result := .ok }) ∧
    (8 ≤ s.params[0].toNat ∨ 1 < s.params[1].toNat ∨
        (halfOf s.params[2] s.params[3]).toInt < -2048 ∨ 2047 < (halfOf s.params[2] s.params[3]).toInt ∨
        (halfOf s.params[4] s.params[5]).toNat < 1 ∨
        (halfOf s.params[6] s.params[7]).toInt < -2048 ∨ 2047 < (halfOf s.params[6] s.params[7]).toInt →
      exec .setProfile s₀ = .next { s with cmd := 0x14, result := .param })) ∧
  (∀ s₀ s : State, s₀.inReset = false → s = finishTick s₀ →
    (s.params[0].toNat ≤ 31 →
      exec .setFreeThreshold s₀ = .next { s with freeThreshold := s.params[0], cmd := 0x15, result := .ok }) ∧
    (32 ≤ s.params[0].toNat → exec .setFreeThreshold s₀ = .next { s with cmd := 0x15, result := .param })) ∧
  State.reset.freeThreshold = 0 ∧
  ∀ (c : Instr) (s t : State), exec c s = .next t → c ≠ .setFreeThreshold → c ≠ .badCommand 0x15 →
    (∀ y, c ≠ .registerWrite 0x00 0x15 y) → (∀ n, c ≠ .reset n) → c ≠ .resetRelease →
      t.freeThreshold = s.freeThreshold

/-- An order's on position is LEAD + OFFSET + LEAD_SHIFT mod 2^24 (R105); a TIME order holds TIME_WIDTH, a SPAN order an off
position S beyond the on position, where S is LENGTH + SPAN_EXTRA when that is 1 or more and else 1 (R106). -/
def Obligations.OrdersAreComputedFromTheRecords : Prop :=
  ∀ (lead : Pos) (len offset : Half) (f : Profile),
    (((computeOrder lead len offset f).onPos.toNat : Int) =
      ((lead.toNat : Int) + offset.toNat + f.leadShift.toInt) % 16777216) ∧
    (f.widthKind = .time → (computeOrder lead len offset f).width = .time f.timeWidth) ∧
    (f.widthKind = .span → ∃ (off : Pos) (span : Nat), (computeOrder lead len offset f).width = .span off ∧
      off.toNat = ((computeOrder lead len offset f).onPos.toNat + span) % 16777216 ∧
      (1 ≤ (len.toNat : Int) + f.spanExtra.toInt → (span : Int) = len.toNat + f.spanExtra.toInt) ∧
      ((len.toNat : Int) + f.spanExtra.toInt < 1 → span = 1))

/-- The arbitration of R112 with the strength of R113: N loses to a valid guard mark it is not ahead of, and to a conflicting
listed order that is stronger; else it wins, and the orders it bumps are those it conflicts with, in age order, at most two
while the list is spaced. -/
def Obligations.ArbitrationIsByPriorityThenAge : Prop :=
  ∀ (s : State) (t : Byte) (v : Verdict) (on : Pos) (conflicting : ItemRecord → Prop), s.Sound →
    (∀ x, conflicting x ↔ x ∈ s.items ∧ x.state = .committed ∧ x.tag ∈ (s.station v.station).list ∧
      ∃ o, x.order = some o ∧
        aheadDist s.p on < aheadDist s.p o.onPos + (s.station v.station).record.guard.toNat ∧
        aheadDist s.p o.onPos < aheadDist s.p on + (s.station v.station).record.guard.toNat) →
    (s.arbitrate t v on = none ↔
      (∃ mark, (s.station v.station).guardMark = some mark ∧ aheadDist s.p on ≤ aheadDist s.p mark) ∨
      ∃ x w, conflicting x ∧ x.verdict = some w ∧
        ¬ (v.priority < w.priority ∨ (v.priority = w.priority ∧ s.age t < s.age x.tag))) ∧
    (∀ bumped, s.arbitrate t v on = some bumped →
      (∀ y, y ∈ bumped ↔ ∃ x, conflicting x ∧ x.tag = y) ∧ bumped.Pairwise (fun y z => s.age y < s.age z) ∧
      (s.spacingLaw → bumped.length ≤ 2))

/-- The advance that reached a valid guard mark makes it invalid (R111); any other guard mark is kept. -/
def Obligations.GuardMarkReachedBecomesInvalid : Prop :=
  ∀ (s : State) (n : StationNo), s.inReset = false →
    ((s.station n).guardMark = some s.p →
      exec (.guardMarkReached n) s =
        .next { s with stations := s.stations.set n.val { s.station n with guardMark := none } }) ∧
    ((s.station n).guardMark ≠ some s.p → exec (.guardMarkReached n) s = .next s)

/-! ### Engines -/

/-- An arrival by R121 and R122: an OFF_READY engine takes the head off the list, starts the pulse with its end rule, and sets
the guard mark at P + GUARD; an engine ON or in RECOVERY only retires the head COLLIDED, with the drain check; where P is not
at the head's on position nothing changes. -/
def Obligations.ArrivalFiresOrCollides : Prop :=
  ∀ (s : State) (n : StationNo) (x : Station), s.inReset = false → s.Sound → x = s.station n →
    (∀ (t : Byte) (rest : List Byte) (r : ItemRecord) (o : Order),
      x.list = t :: rest → r ∈ s.items → r.tag = t → r.order = some o →
      (o.onPos = s.p → x.engine = .offReady →
        exec (.arrival n) s = .next
          { s with
            stations := s.stations.set n.val
              { x with
                list := rest, guardMark := some (s.p + x.record.guard.setWidth 24), tickLate := false,
                engine := .on
                  { tag := t, onTicks := 0,
                    endRule :=
                      match o.width with
                      | .time w => .time (if w.toNat ≤ x.record.maxOn.toNat then w else x.record.maxOn) w
                      | .span off => .span off x.record.maxOn } },
            items := s.items.map (fun z =>
              if z.tag = t then { z with state := .firing, firing := some { onPos := s.p, onTicks := 0 } } else z) }) ∧
      (o.onPos = s.p → (∃ q, x.engine = .on q) ∨ (∃ c, x.engine = .recovery c) →
        exec (.arrival n) s = .next (drainCheck (retire t .collided
          { s with stations := s.stations.set n.val { x with list := rest } }))) ∧
      (o.onPos ≠ s.p → exec (.arrival n) s = .next s)) ∧
    (x.list = [] → exec (.arrival n) s = .next s)

/-- The ends by ticks. An engine that takes a tick after the advance has it still to take (log 4), and the rows TIME_PULSE_END
and RECOVERY_END take it first: an on-tick (R123) or a recovery tick (R127). A TIME pulse (R124, R126): when the on-tick count is
then the end count, the engine rests and the record retires FIRED when the end count is the order's width and else FIRED_CUT,
with the drain check. A recovery (R127) then ends in OFF_READY when its count is 0. Elsewhere the row does no more (log 5). -/
def Obligations.TimePulseAndRecoveryEndAtTheirCounts : Prop :=
  (∀ (s : State) (n : StationNo) (x : Station), x = s.station n →
    (x.tickLate = false → takeLateTick n s = s) ∧
    (∀ (t : Byte) (e : EndRule) (c d : Half), x.tickLate = true → x.engine = .on ⟨t, e, c⟩ →
      d = (if c = 65535 then 65535 else c + 1) →
      takeLateTick n s =
        { s with
          stations := s.stations.set n.val { x with tickLate := false, engine := .on ⟨t, e, d⟩ },
          items := s.items.map (fun z =>
            if z.tag = t then { z with firing := z.firing.map (fun g => { g with onTicks := d }) } else z) }) ∧
    (∀ c : Half, x.tickLate = true → x.engine = .recovery c →
      takeLateTick n s =
        { s with stations := s.stations.set n.val { x with tickLate := false, engine := .recovery (c - 1) } }) ∧
    (x.tickLate = true → x.engine = .offReady ∨ x.engine = .disabled →
      takeLateTick n s = { s with stations := s.stations.set n.val { x with tickLate := false } })) ∧
  ∀ (s a : State) (n : StationNo) (x : Station), s.inReset = false → a = takeLateTick n s → x = a.station n →
    (∀ (t : Byte) (e w c : Half), x.engine = .on ⟨t, .time e w, c⟩ →
      (c = e →
        exec (.timePulseEnd n) s = .next (drainCheck (retire t (if w = e then .fired else .firedCut)
          { a with
            stations := a.stations.set n.val
              { x with engine := if x.record.recovery = 0 then .offReady else .recovery x.record.recovery } }))) ∧
      (c ≠ e → exec (.timePulseEnd n) s = .next a)) ∧
    ((∀ t e w c, x.engine ≠ .on ⟨t, .time e w, c⟩) → exec (.timePulseEnd n) s = .next a) ∧
    (x.engine = .recovery 0 →
      exec (.recoveryEnd n) s = .next { a with stations := a.stations.set n.val { x with engine := .offReady } }) ∧
    (x.engine ≠ .recovery 0 → exec (.recoveryEnd n) s = .next a)

/-- The end of a SPAN pulse (R125, R126). At its off position it ends FIRED with the count as it stands, also with a tick still
to take after the advance, and FIRED_CUT when the count has already reached MAX_ON (log 17). MAX_ON_CUT takes such a tick first
(log 4), and the pulse then ends FIRED_CUT when the count is MAX_ON. The engine rests, and the drain check follows. Elsewhere
the rows do no more (log 5). -/
def Obligations.SpanPulseEndsAtItsOffPositionOrMaxOn : Prop :=
  (∀ (s : State) (n : StationNo) (x : Station), s.inReset = false → x = s.station n →
    (∀ (t : Byte) (off : Pos) (mx c : Half), x.engine = .on ⟨t, .span off mx, c⟩ →
      (off = s.p → exec (.offPositionReached n) s =
        .next (drainCheck (retire t (if c = mx then .firedCut else .fired)
          { s with
            stations := s.stations.set n.val
              { x with
                tickLate := false,
                engine := if x.record.recovery = 0 then .offReady else .recovery x.record.recovery } }))) ∧
      (off ≠ s.p → exec (.offPositionReached n) s = .next s)) ∧
    ((∀ t off mx c, x.engine ≠ .on ⟨t, .span off mx, c⟩) → exec (.offPositionReached n) s = .next s)) ∧
  ∀ (s a : State) (n : StationNo) (x : Station), s.inReset = false → a = takeLateTick n s → x = a.station n →
    (∀ (t : Byte) (off : Pos) (mx c : Half), x.engine = .on ⟨t, .span off mx, c⟩ →
      (c = mx → exec (.maxOnCut n) s =
        .next (drainCheck (retire t .firedCut
          { a with
            stations := a.stations.set n.val
              { x with engine := if x.record.recovery = 0 then .offReady else .recovery x.record.recovery } }))) ∧
      (c ≠ mx → exec (.maxOnCut n) s = .next a)) ∧
    ((∀ t off mx c, x.engine ≠ .on ⟨t, .span off mx, c⟩) → exec (.maxOnCut n) s = .next a)

/-! ### Outcomes -/

/-- NEXT_OUTCOME by R142 with the reply of Table 9.6: the head record leaves the queue into the reply window, and the head of a
non-empty backlog moves into the queue and frees its slot within the command; on an empty queue the result is EMPTY. The
promotion as a step of its own (R71) does the same move when the queue has room, and else changes nothing. A command that
follows a tick comes after what the tick has made (the model's order, log 1). -/
def Obligations.NextOutcomeDeliversTheHead : Prop :=
  (∀ s₀ s : State, s₀.inReset = false → s = finishTick s₀ →
    (s.queue = [] → exec .nextOutcome s₀ = .next { s with cmd := 0x31, result := .empty }) ∧
    ∀ (o : OutcomeRecord) (rest : List OutcomeRecord) (a : State), s.queue = o :: rest →
      a = { s with
            reply := #v[o.tag, BitVec.ofNat 8 o.lane.val, o.outcome.code,
                        (if o.verdict.isSome then 1 else 0) + (if o.length.isSome then 2 else 0) +
                          (if o.firing.isSome then 4 else 0),
                        o.lead.extractLsb' 0 8, o.lead.extractLsb' 8 8, o.lead.extractLsb' 16 8,
                        ((o.verdict.map (fun v => BitVec.ofNat 8 v.2.val +
                          (if v.1 = .defaulted then 128 else 0))).getD 0 : Byte),
                        (o.length.getD 0).extractLsb' 0 8, (o.length.getD 0).extractLsb' 8 8,
                        ((o.firing.map Firing.onPos).getD 0).extractLsb' 0 8,
                        ((o.firing.map Firing.onPos).getD 0).extractLsb' 8 8,
                        ((o.firing.map Firing.onPos).getD 0).extractLsb' 16 8,
                        ((o.firing.map Firing.onTicks).getD 0).extractLsb' 0 8,
                        ((o.firing.map Firing.onTicks).getD 0).extractLsb' 8 8, 0],
            cmd := 0x31, result := .ok } →
      (s.backlog = [] → exec .nextOutcome s₀ = .next { a with queue := rest }) ∧
      (∀ (t : Byte) (bs : List Byte), s.Sound → s.backlog = t :: bs →
        ∃ r ∈ s.items, ∃ code : OutcomeCode, r.tag = t ∧ r.state = .retired ∧ r.outcome = some code ∧
          exec .nextOutcome s₀ = .next
            { a with
              queue := rest ++ [outcomeOf r code], backlog := bs,
              items := s.items.filter (fun x => x.tag != t) })) ∧
  ∀ s : State, s.inReset = false →
    (∀ (t : Byte) (bs : List Byte) (r : ItemRecord) (code : OutcomeCode), s.backlog = t :: bs → s.queue.length < 16 →
      s.heldRecord t = some r → r.outcome = some code →
      exec .backlogPromotion s = .next
        { s with
          backlog := bs, items := s.items.filter (fun x => x.tag != t),
          queue := s.queue ++
            [{ tag := r.tag, lane := r.lane, outcome := code, lead := r.lead,
               verdict := r.verdict.map (fun v => (v.source, v.station)), length := r.length, firing := r.firing }] }) ∧
    (s.backlog = [] ∨ 16 ≤ s.queue.length → exec .backlogPromotion s = .next s)

/-- Queue and backlog together deliver outcomes in the order the items retired (R139): every command but NEXT_OUTCOME,
CLEAR_LINE and reset leaves the waiting outcomes in their order, with new ones behind them; NEXT_OUTCOME takes the first of
them, after the new ones that a tick before it has made have joined behind (log 1). A write of CMD is the row of its command. -/
def Obligations.OutcomesWaitInRetirementOrder : Prop :=
  ∀ (c : Instr) (s t : State), s.Sound → exec c s = .next t →
    (c ≠ .nextOutcome → c ≠ .clearLine → (∀ b, c ≠ .badCommand b) → (∀ a b y, c ≠ .registerWrite a b y) →
      (∀ n, c ≠ .reset n) → c ≠ .resetRelease → ∃ more, t.waiting = s.waiting ++ more) ∧
    (c = .nextOutcome → s.inReset = false →
      ∃ more, (finishTick s).waiting = s.waiting ++ more ∧
        ((s.waiting ++ more = [] ∧ t.waiting = []) ∨ ∃ first, s.waiting ++ more = first :: t.waiting))

/-! ### Invariants -/

/-- The state after reset is sound, and its station lists are spaced. -/
def Obligations.ResetStateIsSound : Prop := State.reset.Sound ∧ State.reset.spacingLaw ∧ State.reset.drainLaw

/-- Every step keeps the laws of the queue, the backlog and the table: at most 16 outcome records, a backlog only behind a
full queue, at most 32 slots taken, no tag held twice, the backlog exactly the RETIRED records (R50, R55, R139, R170). -/
def Obligations.StepKeepsQueueBacklogAndTable : Prop :=
  ∀ s t : State, s.Sound → step s = .next t →
    t.queueLaw ∧ t.backlogFlagLaw ∧ t.tableLaw ∧ t.backlogLaw ∧ t.thresholdLaw

/-- Every step keeps the laws of the announce list, the station lists and the engines: PENDING records announced once, a
record listed exactly while COMMITTED, an engine ON exactly while its item is FIRING, DISABLED exactly with ENABLE 0 (R62,
R108, R119, R120). -/
def Obligations.StepKeepsListsAndEngines : Prop :=
  ∀ s t : State, s.Sound → step s = .next t → t.announceLaw ∧ t.listLaw ∧ t.engineLaw

/-- Every step keeps the laws of the lanes, the optional fields and the run state: a measurement exactly in MEASURING, not past
its jam position, the fields of Table 4.1, nothing live and no advance waiting in IDLE and HALT, the timebase record and K in
their ranges (R7, R10, R16, R28, R42, R52). -/
def Obligations.StepKeepsLanesRecordsAndRest : Prop :=
  ∀ s t : State, s.Sound → step s = .next t → t.laneLaw ∧ t.presenceLaw ∧ t.restLaw ∧ t.timebaseLaw

/-- Every step keeps each station list in ascending order of ahead distance, its orders at least GUARD apart and none behind
P or before the guard mark (R108). -/
def Obligations.StepKeepsStationListsSpaced : Prop :=
  ∀ s t : State, s.Sound → s.spacingLaw → step s = .next t → t.spacingLaw
end

