-- ==== Sys2Proof/Laws/State.lean ====
section
/-! SUPPORT. The updates of State, field by field: what each leaves in each field, true by definition; and reading a lane, a
station or a profile back after a write. -/

namespace Sys2Proof.Machine

/-! ### setLane -/

@[simp] theorem setLane_pending (s : State) (l : LaneNo) (x : Lane) : (s.setLane l x).pending = s.pending := rfl
@[simp] theorem setLane_inReset (s : State) (l : LaneNo) (x : Lane) : (s.setLane l x).inReset = s.inReset := rfl
@[simp] theorem setLane_timebase (s : State) (l : LaneNo) (x : Lane) : (s.setLane l x).timebase = s.timebase := rfl
@[simp] theorem setLane_divCount (s : State) (l : LaneNo) (x : Lane) : (s.setLane l x).divCount = s.divCount := rfl
@[simp] theorem setLane_p (s : State) (l : LaneNo) (x : Lane) : (s.setLane l x).p = s.p := rfl
@[simp] theorem setLane_k (s : State) (l : LaneNo) (x : Lane) : (s.setLane l x).k = s.k := rfl
@[simp] theorem setLane_encFilter (s : State) (l : LaneNo) (x : Lane) : (s.setLane l x).encFilter = s.encFilter := rfl
@[simp] theorem setLane_advanceDue (s : State) (l : LaneNo) (x : Lane) : (s.setLane l x).advanceDue = s.advanceDue := rfl
@[simp] theorem setLane_latchMid (s : State) (l : LaneNo) (x : Lane) : (s.setLane l x).latchMid = s.latchMid := rfl
@[simp] theorem setLane_latchHigh (s : State) (l : LaneNo) (x : Lane) : (s.setLane l x).latchHigh = s.latchHigh := rfl
@[simp] theorem setLane_run (s : State) (l : LaneNo) (x : Lane) : (s.setLane l x).run = s.run := rfl
@[simp] theorem setLane_haltCause (s : State) (l : LaneNo) (x : Lane) : (s.setLane l x).haltCause = s.haltCause := rfl
@[simp] theorem setLane_xstopFilter (s : State) (l : LaneNo) (x : Lane) : (s.setLane l x).xstopFilter = s.xstopFilter := rfl
@[simp] theorem setLane_xstopEdge (s : State) (l : LaneNo) (x : Lane) : (s.setLane l x).xstopEdge = s.xstopEdge := rfl
@[simp] theorem setLane_lanes (s : State) (l : LaneNo) (x : Lane) : (s.setLane l x).lanes = s.lanes.set l.val x := rfl
@[simp] theorem setLane_items (s : State) (l : LaneNo) (x : Lane) : (s.setLane l x).items = s.items := rfl
@[simp] theorem setLane_announce (s : State) (l : LaneNo) (x : Lane) : (s.setLane l x).announce = s.announce := rfl
@[simp] theorem setLane_tc (s : State) (l : LaneNo) (x : Lane) : (s.setLane l x).tc = s.tc := rfl
@[simp] theorem setLane_freeThreshold (s : State) (l : LaneNo) (x : Lane) : (s.setLane l x).freeThreshold = s.freeThreshold := rfl
@[simp] theorem setLane_stations (s : State) (l : LaneNo) (x : Lane) : (s.setLane l x).stations = s.stations := rfl
@[simp] theorem setLane_profiles (s : State) (l : LaneNo) (x : Lane) : (s.setLane l x).profiles = s.profiles := rfl
@[simp] theorem setLane_queue (s : State) (l : LaneNo) (x : Lane) : (s.setLane l x).queue = s.queue := rfl
@[simp] theorem setLane_backlog (s : State) (l : LaneNo) (x : Lane) : (s.setLane l x).backlog = s.backlog := rfl
@[simp] theorem setLane_laneAlert (s : State) (l : LaneNo) (x : Lane) : (s.setLane l x).laneAlert = s.laneAlert := rfl
@[simp] theorem setLane_haltEntered (s : State) (l : LaneNo) (x : Lane) : (s.setLane l x).haltEntered = s.haltEntered := rfl
@[simp] theorem setLane_drainDone (s : State) (l : LaneNo) (x : Lane) : (s.setLane l x).drainDone = s.drainDone := rfl
@[simp] theorem setLane_freeLow (s : State) (l : LaneNo) (x : Lane) : (s.setLane l x).freeLow = s.freeLow := rfl
@[simp] theorem setLane_backlogFlag (s : State) (l : LaneNo) (x : Lane) : (s.setLane l x).backlogFlag = s.backlogFlag := rfl
@[simp] theorem setLane_enables (s : State) (l : LaneNo) (x : Lane) : (s.setLane l x).enables = s.enables := rfl
@[simp] theorem setLane_cmd (s : State) (l : LaneNo) (x : Lane) : (s.setLane l x).cmd = s.cmd := rfl
@[simp] theorem setLane_result (s : State) (l : LaneNo) (x : Lane) : (s.setLane l x).result = s.result := rfl
@[simp] theorem setLane_params (s : State) (l : LaneNo) (x : Lane) : (s.setLane l x).params = s.params := rfl
@[simp] theorem setLane_reply (s : State) (l : LaneNo) (x : Lane) : (s.setLane l x).reply = s.reply := rfl
@[simp] theorem setLane_readData (s : State) (l : LaneNo) (x : Lane) : (s.setLane l x).readData = s.readData := rfl

/-! ### setStation -/

@[simp] theorem setStation_pending (s : State) (n : StationNo) (x : Station) : (s.setStation n x).pending = s.pending := rfl
@[simp] theorem setStation_inReset (s : State) (n : StationNo) (x : Station) : (s.setStation n x).inReset = s.inReset := rfl
@[simp] theorem setStation_timebase (s : State) (n : StationNo) (x : Station) : (s.setStation n x).timebase = s.timebase := rfl
@[simp] theorem setStation_divCount (s : State) (n : StationNo) (x : Station) : (s.setStation n x).divCount = s.divCount := rfl
@[simp] theorem setStation_p (s : State) (n : StationNo) (x : Station) : (s.setStation n x).p = s.p := rfl
@[simp] theorem setStation_k (s : State) (n : StationNo) (x : Station) : (s.setStation n x).k = s.k := rfl
@[simp] theorem setStation_encFilter (s : State) (n : StationNo) (x : Station) : (s.setStation n x).encFilter = s.encFilter := rfl
@[simp] theorem setStation_advanceDue (s : State) (n : StationNo) (x : Station) : (s.setStation n x).advanceDue = s.advanceDue := rfl
@[simp] theorem setStation_latchMid (s : State) (n : StationNo) (x : Station) : (s.setStation n x).latchMid = s.latchMid := rfl
@[simp] theorem setStation_latchHigh (s : State) (n : StationNo) (x : Station) : (s.setStation n x).latchHigh = s.latchHigh := rfl
@[simp] theorem setStation_run (s : State) (n : StationNo) (x : Station) : (s.setStation n x).run = s.run := rfl
@[simp] theorem setStation_haltCause (s : State) (n : StationNo) (x : Station) : (s.setStation n x).haltCause = s.haltCause := rfl
@[simp] theorem setStation_xstopFilter (s : State) (n : StationNo) (x : Station) : (s.setStation n x).xstopFilter = s.xstopFilter := rfl
@[simp] theorem setStation_xstopEdge (s : State) (n : StationNo) (x : Station) : (s.setStation n x).xstopEdge = s.xstopEdge := rfl
@[simp] theorem setStation_lanes (s : State) (n : StationNo) (x : Station) : (s.setStation n x).lanes = s.lanes := rfl
@[simp] theorem setStation_items (s : State) (n : StationNo) (x : Station) : (s.setStation n x).items = s.items := rfl
@[simp] theorem setStation_announce (s : State) (n : StationNo) (x : Station) : (s.setStation n x).announce = s.announce := rfl
@[simp] theorem setStation_tc (s : State) (n : StationNo) (x : Station) : (s.setStation n x).tc = s.tc := rfl
@[simp] theorem setStation_freeThreshold (s : State) (n : StationNo) (x : Station) : (s.setStation n x).freeThreshold = s.freeThreshold := rfl
@[simp] theorem setStation_stations (s : State) (n : StationNo) (x : Station) : (s.setStation n x).stations = s.stations.set n.val x := rfl
@[simp] theorem setStation_profiles (s : State) (n : StationNo) (x : Station) : (s.setStation n x).profiles = s.profiles := rfl
@[simp] theorem setStation_queue (s : State) (n : StationNo) (x : Station) : (s.setStation n x).queue = s.queue := rfl
@[simp] theorem setStation_backlog (s : State) (n : StationNo) (x : Station) : (s.setStation n x).backlog = s.backlog := rfl
@[simp] theorem setStation_laneAlert (s : State) (n : StationNo) (x : Station) : (s.setStation n x).laneAlert = s.laneAlert := rfl
@[simp] theorem setStation_haltEntered (s : State) (n : StationNo) (x : Station) : (s.setStation n x).haltEntered = s.haltEntered := rfl
@[simp] theorem setStation_drainDone (s : State) (n : StationNo) (x : Station) : (s.setStation n x).drainDone = s.drainDone := rfl
@[simp] theorem setStation_freeLow (s : State) (n : StationNo) (x : Station) : (s.setStation n x).freeLow = s.freeLow := rfl
@[simp] theorem setStation_backlogFlag (s : State) (n : StationNo) (x : Station) : (s.setStation n x).backlogFlag = s.backlogFlag := rfl
@[simp] theorem setStation_enables (s : State) (n : StationNo) (x : Station) : (s.setStation n x).enables = s.enables := rfl
@[simp] theorem setStation_cmd (s : State) (n : StationNo) (x : Station) : (s.setStation n x).cmd = s.cmd := rfl
@[simp] theorem setStation_result (s : State) (n : StationNo) (x : Station) : (s.setStation n x).result = s.result := rfl
@[simp] theorem setStation_params (s : State) (n : StationNo) (x : Station) : (s.setStation n x).params = s.params := rfl
@[simp] theorem setStation_reply (s : State) (n : StationNo) (x : Station) : (s.setStation n x).reply = s.reply := rfl
@[simp] theorem setStation_readData (s : State) (n : StationNo) (x : Station) : (s.setStation n x).readData = s.readData := rfl

/-! ### setProfile -/

@[simp] theorem setProfile_pending (s : State) (n : ProfileNo) (x : Profile) : (s.setProfile n x).pending = s.pending := rfl
@[simp] theorem setProfile_inReset (s : State) (n : ProfileNo) (x : Profile) : (s.setProfile n x).inReset = s.inReset := rfl
@[simp] theorem setProfile_timebase (s : State) (n : ProfileNo) (x : Profile) : (s.setProfile n x).timebase = s.timebase := rfl
@[simp] theorem setProfile_divCount (s : State) (n : ProfileNo) (x : Profile) : (s.setProfile n x).divCount = s.divCount := rfl
@[simp] theorem setProfile_p (s : State) (n : ProfileNo) (x : Profile) : (s.setProfile n x).p = s.p := rfl
@[simp] theorem setProfile_k (s : State) (n : ProfileNo) (x : Profile) : (s.setProfile n x).k = s.k := rfl
@[simp] theorem setProfile_encFilter (s : State) (n : ProfileNo) (x : Profile) : (s.setProfile n x).encFilter = s.encFilter := rfl
@[simp] theorem setProfile_advanceDue (s : State) (n : ProfileNo) (x : Profile) : (s.setProfile n x).advanceDue = s.advanceDue := rfl
@[simp] theorem setProfile_latchMid (s : State) (n : ProfileNo) (x : Profile) : (s.setProfile n x).latchMid = s.latchMid := rfl
@[simp] theorem setProfile_latchHigh (s : State) (n : ProfileNo) (x : Profile) : (s.setProfile n x).latchHigh = s.latchHigh := rfl
@[simp] theorem setProfile_run (s : State) (n : ProfileNo) (x : Profile) : (s.setProfile n x).run = s.run := rfl
@[simp] theorem setProfile_haltCause (s : State) (n : ProfileNo) (x : Profile) : (s.setProfile n x).haltCause = s.haltCause := rfl
@[simp] theorem setProfile_xstopFilter (s : State) (n : ProfileNo) (x : Profile) : (s.setProfile n x).xstopFilter = s.xstopFilter := rfl
@[simp] theorem setProfile_xstopEdge (s : State) (n : ProfileNo) (x : Profile) : (s.setProfile n x).xstopEdge = s.xstopEdge := rfl
@[simp] theorem setProfile_lanes (s : State) (n : ProfileNo) (x : Profile) : (s.setProfile n x).lanes = s.lanes := rfl
@[simp] theorem setProfile_items (s : State) (n : ProfileNo) (x : Profile) : (s.setProfile n x).items = s.items := rfl
@[simp] theorem setProfile_announce (s : State) (n : ProfileNo) (x : Profile) : (s.setProfile n x).announce = s.announce := rfl
@[simp] theorem setProfile_tc (s : State) (n : ProfileNo) (x : Profile) : (s.setProfile n x).tc = s.tc := rfl
@[simp] theorem setProfile_freeThreshold (s : State) (n : ProfileNo) (x : Profile) : (s.setProfile n x).freeThreshold = s.freeThreshold := rfl
@[simp] theorem setProfile_stations (s : State) (n : ProfileNo) (x : Profile) : (s.setProfile n x).stations = s.stations := rfl
@[simp] theorem setProfile_profiles (s : State) (n : ProfileNo) (x : Profile) : (s.setProfile n x).profiles = s.profiles.set n.val x := rfl
@[simp] theorem setProfile_queue (s : State) (n : ProfileNo) (x : Profile) : (s.setProfile n x).queue = s.queue := rfl
@[simp] theorem setProfile_backlog (s : State) (n : ProfileNo) (x : Profile) : (s.setProfile n x).backlog = s.backlog := rfl
@[simp] theorem setProfile_laneAlert (s : State) (n : ProfileNo) (x : Profile) : (s.setProfile n x).laneAlert = s.laneAlert := rfl
@[simp] theorem setProfile_haltEntered (s : State) (n : ProfileNo) (x : Profile) : (s.setProfile n x).haltEntered = s.haltEntered := rfl
@[simp] theorem setProfile_drainDone (s : State) (n : ProfileNo) (x : Profile) : (s.setProfile n x).drainDone = s.drainDone := rfl
@[simp] theorem setProfile_freeLow (s : State) (n : ProfileNo) (x : Profile) : (s.setProfile n x).freeLow = s.freeLow := rfl
@[simp] theorem setProfile_backlogFlag (s : State) (n : ProfileNo) (x : Profile) : (s.setProfile n x).backlogFlag = s.backlogFlag := rfl
@[simp] theorem setProfile_enables (s : State) (n : ProfileNo) (x : Profile) : (s.setProfile n x).enables = s.enables := rfl
@[simp] theorem setProfile_cmd (s : State) (n : ProfileNo) (x : Profile) : (s.setProfile n x).cmd = s.cmd := rfl
@[simp] theorem setProfile_result (s : State) (n : ProfileNo) (x : Profile) : (s.setProfile n x).result = s.result := rfl
@[simp] theorem setProfile_params (s : State) (n : ProfileNo) (x : Profile) : (s.setProfile n x).params = s.params := rfl
@[simp] theorem setProfile_reply (s : State) (n : ProfileNo) (x : Profile) : (s.setProfile n x).reply = s.reply := rfl
@[simp] theorem setProfile_readData (s : State) (n : ProfileNo) (x : Profile) : (s.setProfile n x).readData = s.readData := rfl

/-! ### modifyRecord -/

@[simp] theorem modifyRecord_pending (s : State) (t : Byte) (f : ItemRecord → ItemRecord) : (s.modifyRecord t f).pending = s.pending := rfl
@[simp] theorem modifyRecord_inReset (s : State) (t : Byte) (f : ItemRecord → ItemRecord) : (s.modifyRecord t f).inReset = s.inReset := rfl
@[simp] theorem modifyRecord_timebase (s : State) (t : Byte) (f : ItemRecord → ItemRecord) : (s.modifyRecord t f).timebase = s.timebase := rfl
@[simp] theorem modifyRecord_divCount (s : State) (t : Byte) (f : ItemRecord → ItemRecord) : (s.modifyRecord t f).divCount = s.divCount := rfl
@[simp] theorem modifyRecord_p (s : State) (t : Byte) (f : ItemRecord → ItemRecord) : (s.modifyRecord t f).p = s.p := rfl
@[simp] theorem modifyRecord_k (s : State) (t : Byte) (f : ItemRecord → ItemRecord) : (s.modifyRecord t f).k = s.k := rfl
@[simp] theorem modifyRecord_encFilter (s : State) (t : Byte) (f : ItemRecord → ItemRecord) : (s.modifyRecord t f).encFilter = s.encFilter := rfl
@[simp] theorem modifyRecord_advanceDue (s : State) (t : Byte) (f : ItemRecord → ItemRecord) : (s.modifyRecord t f).advanceDue = s.advanceDue := rfl
@[simp] theorem modifyRecord_latchMid (s : State) (t : Byte) (f : ItemRecord → ItemRecord) : (s.modifyRecord t f).latchMid = s.latchMid := rfl
@[simp] theorem modifyRecord_latchHigh (s : State) (t : Byte) (f : ItemRecord → ItemRecord) : (s.modifyRecord t f).latchHigh = s.latchHigh := rfl
@[simp] theorem modifyRecord_run (s : State) (t : Byte) (f : ItemRecord → ItemRecord) : (s.modifyRecord t f).run = s.run := rfl
@[simp] theorem modifyRecord_haltCause (s : State) (t : Byte) (f : ItemRecord → ItemRecord) : (s.modifyRecord t f).haltCause = s.haltCause := rfl
@[simp] theorem modifyRecord_xstopFilter (s : State) (t : Byte) (f : ItemRecord → ItemRecord) : (s.modifyRecord t f).xstopFilter = s.xstopFilter := rfl
@[simp] theorem modifyRecord_xstopEdge (s : State) (t : Byte) (f : ItemRecord → ItemRecord) : (s.modifyRecord t f).xstopEdge = s.xstopEdge := rfl
@[simp] theorem modifyRecord_lanes (s : State) (t : Byte) (f : ItemRecord → ItemRecord) : (s.modifyRecord t f).lanes = s.lanes := rfl
@[simp] theorem modifyRecord_items (s : State) (t : Byte) (f : ItemRecord → ItemRecord) : (s.modifyRecord t f).items = s.items.map (fun r => if r.tag = t then f r else r) := rfl
@[simp] theorem modifyRecord_announce (s : State) (t : Byte) (f : ItemRecord → ItemRecord) : (s.modifyRecord t f).announce = s.announce := rfl
@[simp] theorem modifyRecord_tc (s : State) (t : Byte) (f : ItemRecord → ItemRecord) : (s.modifyRecord t f).tc = s.tc := rfl
@[simp] theorem modifyRecord_freeThreshold (s : State) (t : Byte) (f : ItemRecord → ItemRecord) : (s.modifyRecord t f).freeThreshold = s.freeThreshold := rfl
@[simp] theorem modifyRecord_stations (s : State) (t : Byte) (f : ItemRecord → ItemRecord) : (s.modifyRecord t f).stations = s.stations := rfl
@[simp] theorem modifyRecord_profiles (s : State) (t : Byte) (f : ItemRecord → ItemRecord) : (s.modifyRecord t f).profiles = s.profiles := rfl
@[simp] theorem modifyRecord_queue (s : State) (t : Byte) (f : ItemRecord → ItemRecord) : (s.modifyRecord t f).queue = s.queue := rfl
@[simp] theorem modifyRecord_backlog (s : State) (t : Byte) (f : ItemRecord → ItemRecord) : (s.modifyRecord t f).backlog = s.backlog := rfl
@[simp] theorem modifyRecord_laneAlert (s : State) (t : Byte) (f : ItemRecord → ItemRecord) : (s.modifyRecord t f).laneAlert = s.laneAlert := rfl
@[simp] theorem modifyRecord_haltEntered (s : State) (t : Byte) (f : ItemRecord → ItemRecord) : (s.modifyRecord t f).haltEntered = s.haltEntered := rfl
@[simp] theorem modifyRecord_drainDone (s : State) (t : Byte) (f : ItemRecord → ItemRecord) : (s.modifyRecord t f).drainDone = s.drainDone := rfl
@[simp] theorem modifyRecord_freeLow (s : State) (t : Byte) (f : ItemRecord → ItemRecord) : (s.modifyRecord t f).freeLow = s.freeLow := rfl
@[simp] theorem modifyRecord_backlogFlag (s : State) (t : Byte) (f : ItemRecord → ItemRecord) : (s.modifyRecord t f).backlogFlag = s.backlogFlag := rfl
@[simp] theorem modifyRecord_enables (s : State) (t : Byte) (f : ItemRecord → ItemRecord) : (s.modifyRecord t f).enables = s.enables := rfl
@[simp] theorem modifyRecord_cmd (s : State) (t : Byte) (f : ItemRecord → ItemRecord) : (s.modifyRecord t f).cmd = s.cmd := rfl
@[simp] theorem modifyRecord_result (s : State) (t : Byte) (f : ItemRecord → ItemRecord) : (s.modifyRecord t f).result = s.result := rfl
@[simp] theorem modifyRecord_params (s : State) (t : Byte) (f : ItemRecord → ItemRecord) : (s.modifyRecord t f).params = s.params := rfl
@[simp] theorem modifyRecord_reply (s : State) (t : Byte) (f : ItemRecord → ItemRecord) : (s.modifyRecord t f).reply = s.reply := rfl
@[simp] theorem modifyRecord_readData (s : State) (t : Byte) (f : ItemRecord → ItemRecord) : (s.modifyRecord t f).readData = s.readData := rfl

/-! ### freeSlot -/

@[simp] theorem freeSlot_pending (s : State) (t : Byte) : (s.freeSlot t).pending = s.pending := rfl
@[simp] theorem freeSlot_inReset (s : State) (t : Byte) : (s.freeSlot t).inReset = s.inReset := rfl
@[simp] theorem freeSlot_timebase (s : State) (t : Byte) : (s.freeSlot t).timebase = s.timebase := rfl
@[simp] theorem freeSlot_divCount (s : State) (t : Byte) : (s.freeSlot t).divCount = s.divCount := rfl
@[simp] theorem freeSlot_p (s : State) (t : Byte) : (s.freeSlot t).p = s.p := rfl
@[simp] theorem freeSlot_k (s : State) (t : Byte) : (s.freeSlot t).k = s.k := rfl
@[simp] theorem freeSlot_encFilter (s : State) (t : Byte) : (s.freeSlot t).encFilter = s.encFilter := rfl
@[simp] theorem freeSlot_advanceDue (s : State) (t : Byte) : (s.freeSlot t).advanceDue = s.advanceDue := rfl
@[simp] theorem freeSlot_latchMid (s : State) (t : Byte) : (s.freeSlot t).latchMid = s.latchMid := rfl
@[simp] theorem freeSlot_latchHigh (s : State) (t : Byte) : (s.freeSlot t).latchHigh = s.latchHigh := rfl
@[simp] theorem freeSlot_run (s : State) (t : Byte) : (s.freeSlot t).run = s.run := rfl
@[simp] theorem freeSlot_haltCause (s : State) (t : Byte) : (s.freeSlot t).haltCause = s.haltCause := rfl
@[simp] theorem freeSlot_xstopFilter (s : State) (t : Byte) : (s.freeSlot t).xstopFilter = s.xstopFilter := rfl
@[simp] theorem freeSlot_xstopEdge (s : State) (t : Byte) : (s.freeSlot t).xstopEdge = s.xstopEdge := rfl
@[simp] theorem freeSlot_lanes (s : State) (t : Byte) : (s.freeSlot t).lanes = s.lanes := rfl
@[simp] theorem freeSlot_items (s : State) (t : Byte) : (s.freeSlot t).items = s.items.filter (fun r => r.tag != t) := rfl
@[simp] theorem freeSlot_announce (s : State) (t : Byte) : (s.freeSlot t).announce = s.announce := rfl
@[simp] theorem freeSlot_tc (s : State) (t : Byte) : (s.freeSlot t).tc = s.tc := rfl
@[simp] theorem freeSlot_freeThreshold (s : State) (t : Byte) : (s.freeSlot t).freeThreshold = s.freeThreshold := rfl
@[simp] theorem freeSlot_stations (s : State) (t : Byte) : (s.freeSlot t).stations = s.stations := rfl
@[simp] theorem freeSlot_profiles (s : State) (t : Byte) : (s.freeSlot t).profiles = s.profiles := rfl
@[simp] theorem freeSlot_queue (s : State) (t : Byte) : (s.freeSlot t).queue = s.queue := rfl
@[simp] theorem freeSlot_backlog (s : State) (t : Byte) : (s.freeSlot t).backlog = s.backlog := rfl
@[simp] theorem freeSlot_laneAlert (s : State) (t : Byte) : (s.freeSlot t).laneAlert = s.laneAlert := rfl
@[simp] theorem freeSlot_haltEntered (s : State) (t : Byte) : (s.freeSlot t).haltEntered = s.haltEntered := rfl
@[simp] theorem freeSlot_drainDone (s : State) (t : Byte) : (s.freeSlot t).drainDone = s.drainDone := rfl
@[simp] theorem freeSlot_freeLow (s : State) (t : Byte) : (s.freeSlot t).freeLow = s.freeLow := rfl
@[simp] theorem freeSlot_backlogFlag (s : State) (t : Byte) : (s.freeSlot t).backlogFlag = s.backlogFlag := rfl
@[simp] theorem freeSlot_enables (s : State) (t : Byte) : (s.freeSlot t).enables = s.enables := rfl
@[simp] theorem freeSlot_cmd (s : State) (t : Byte) : (s.freeSlot t).cmd = s.cmd := rfl
@[simp] theorem freeSlot_result (s : State) (t : Byte) : (s.freeSlot t).result = s.result := rfl
@[simp] theorem freeSlot_params (s : State) (t : Byte) : (s.freeSlot t).params = s.params := rfl
@[simp] theorem freeSlot_reply (s : State) (t : Byte) : (s.freeSlot t).reply = s.reply := rfl
@[simp] theorem freeSlot_readData (s : State) (t : Byte) : (s.freeSlot t).readData = s.readData := rfl

/-! ### dropAnnounce -/

@[simp] theorem dropAnnounce_pending (s : State) (t : Byte) : (s.dropAnnounce t).pending = s.pending := rfl
@[simp] theorem dropAnnounce_inReset (s : State) (t : Byte) : (s.dropAnnounce t).inReset = s.inReset := rfl
@[simp] theorem dropAnnounce_timebase (s : State) (t : Byte) : (s.dropAnnounce t).timebase = s.timebase := rfl
@[simp] theorem dropAnnounce_divCount (s : State) (t : Byte) : (s.dropAnnounce t).divCount = s.divCount := rfl
@[simp] theorem dropAnnounce_p (s : State) (t : Byte) : (s.dropAnnounce t).p = s.p := rfl
@[simp] theorem dropAnnounce_k (s : State) (t : Byte) : (s.dropAnnounce t).k = s.k := rfl
@[simp] theorem dropAnnounce_encFilter (s : State) (t : Byte) : (s.dropAnnounce t).encFilter = s.encFilter := rfl
@[simp] theorem dropAnnounce_advanceDue (s : State) (t : Byte) : (s.dropAnnounce t).advanceDue = s.advanceDue := rfl
@[simp] theorem dropAnnounce_latchMid (s : State) (t : Byte) : (s.dropAnnounce t).latchMid = s.latchMid := rfl
@[simp] theorem dropAnnounce_latchHigh (s : State) (t : Byte) : (s.dropAnnounce t).latchHigh = s.latchHigh := rfl
@[simp] theorem dropAnnounce_run (s : State) (t : Byte) : (s.dropAnnounce t).run = s.run := rfl
@[simp] theorem dropAnnounce_haltCause (s : State) (t : Byte) : (s.dropAnnounce t).haltCause = s.haltCause := rfl
@[simp] theorem dropAnnounce_xstopFilter (s : State) (t : Byte) : (s.dropAnnounce t).xstopFilter = s.xstopFilter := rfl
@[simp] theorem dropAnnounce_xstopEdge (s : State) (t : Byte) : (s.dropAnnounce t).xstopEdge = s.xstopEdge := rfl
@[simp] theorem dropAnnounce_lanes (s : State) (t : Byte) : (s.dropAnnounce t).lanes = s.lanes := rfl
@[simp] theorem dropAnnounce_items (s : State) (t : Byte) : (s.dropAnnounce t).items = s.items := rfl
@[simp] theorem dropAnnounce_announce (s : State) (t : Byte) : (s.dropAnnounce t).announce = s.announce.filter (· != t) := rfl
@[simp] theorem dropAnnounce_tc (s : State) (t : Byte) : (s.dropAnnounce t).tc = s.tc := rfl
@[simp] theorem dropAnnounce_freeThreshold (s : State) (t : Byte) : (s.dropAnnounce t).freeThreshold = s.freeThreshold := rfl
@[simp] theorem dropAnnounce_stations (s : State) (t : Byte) : (s.dropAnnounce t).stations = s.stations := rfl
@[simp] theorem dropAnnounce_profiles (s : State) (t : Byte) : (s.dropAnnounce t).profiles = s.profiles := rfl
@[simp] theorem dropAnnounce_queue (s : State) (t : Byte) : (s.dropAnnounce t).queue = s.queue := rfl
@[simp] theorem dropAnnounce_backlog (s : State) (t : Byte) : (s.dropAnnounce t).backlog = s.backlog := rfl
@[simp] theorem dropAnnounce_laneAlert (s : State) (t : Byte) : (s.dropAnnounce t).laneAlert = s.laneAlert := rfl
@[simp] theorem dropAnnounce_haltEntered (s : State) (t : Byte) : (s.dropAnnounce t).haltEntered = s.haltEntered := rfl
@[simp] theorem dropAnnounce_drainDone (s : State) (t : Byte) : (s.dropAnnounce t).drainDone = s.drainDone := rfl
@[simp] theorem dropAnnounce_freeLow (s : State) (t : Byte) : (s.dropAnnounce t).freeLow = s.freeLow := rfl
@[simp] theorem dropAnnounce_backlogFlag (s : State) (t : Byte) : (s.dropAnnounce t).backlogFlag = s.backlogFlag := rfl
@[simp] theorem dropAnnounce_enables (s : State) (t : Byte) : (s.dropAnnounce t).enables = s.enables := rfl
@[simp] theorem dropAnnounce_cmd (s : State) (t : Byte) : (s.dropAnnounce t).cmd = s.cmd := rfl
@[simp] theorem dropAnnounce_result (s : State) (t : Byte) : (s.dropAnnounce t).result = s.result := rfl
@[simp] theorem dropAnnounce_params (s : State) (t : Byte) : (s.dropAnnounce t).params = s.params := rfl
@[simp] theorem dropAnnounce_reply (s : State) (t : Byte) : (s.dropAnnounce t).reply = s.reply := rfl
@[simp] theorem dropAnnounce_readData (s : State) (t : Byte) : (s.dropAnnounce t).readData = s.readData := rfl

/-! ### dropOrder -/

@[simp] theorem dropOrder_pending (s : State) (n : StationNo) (t : Byte) : (s.dropOrder n t).pending = s.pending := rfl
@[simp] theorem dropOrder_inReset (s : State) (n : StationNo) (t : Byte) : (s.dropOrder n t).inReset = s.inReset := rfl
@[simp] theorem dropOrder_timebase (s : State) (n : StationNo) (t : Byte) : (s.dropOrder n t).timebase = s.timebase := rfl
@[simp] theorem dropOrder_divCount (s : State) (n : StationNo) (t : Byte) : (s.dropOrder n t).divCount = s.divCount := rfl
@[simp] theorem dropOrder_p (s : State) (n : StationNo) (t : Byte) : (s.dropOrder n t).p = s.p := rfl
@[simp] theorem dropOrder_k (s : State) (n : StationNo) (t : Byte) : (s.dropOrder n t).k = s.k := rfl
@[simp] theorem dropOrder_encFilter (s : State) (n : StationNo) (t : Byte) : (s.dropOrder n t).encFilter = s.encFilter := rfl
@[simp] theorem dropOrder_advanceDue (s : State) (n : StationNo) (t : Byte) : (s.dropOrder n t).advanceDue = s.advanceDue := rfl
@[simp] theorem dropOrder_latchMid (s : State) (n : StationNo) (t : Byte) : (s.dropOrder n t).latchMid = s.latchMid := rfl
@[simp] theorem dropOrder_latchHigh (s : State) (n : StationNo) (t : Byte) : (s.dropOrder n t).latchHigh = s.latchHigh := rfl
@[simp] theorem dropOrder_run (s : State) (n : StationNo) (t : Byte) : (s.dropOrder n t).run = s.run := rfl
@[simp] theorem dropOrder_haltCause (s : State) (n : StationNo) (t : Byte) : (s.dropOrder n t).haltCause = s.haltCause := rfl
@[simp] theorem dropOrder_xstopFilter (s : State) (n : StationNo) (t : Byte) : (s.dropOrder n t).xstopFilter = s.xstopFilter := rfl
@[simp] theorem dropOrder_xstopEdge (s : State) (n : StationNo) (t : Byte) : (s.dropOrder n t).xstopEdge = s.xstopEdge := rfl
@[simp] theorem dropOrder_lanes (s : State) (n : StationNo) (t : Byte) : (s.dropOrder n t).lanes = s.lanes := rfl
@[simp] theorem dropOrder_items (s : State) (n : StationNo) (t : Byte) : (s.dropOrder n t).items = s.items := rfl
@[simp] theorem dropOrder_announce (s : State) (n : StationNo) (t : Byte) : (s.dropOrder n t).announce = s.announce := rfl
@[simp] theorem dropOrder_tc (s : State) (n : StationNo) (t : Byte) : (s.dropOrder n t).tc = s.tc := rfl
@[simp] theorem dropOrder_freeThreshold (s : State) (n : StationNo) (t : Byte) : (s.dropOrder n t).freeThreshold = s.freeThreshold := rfl
@[simp] theorem dropOrder_stations (s : State) (n : StationNo) (t : Byte) : (s.dropOrder n t).stations = s.stations.set n.val { s.station n with list := (s.station n).list.filter (· != t) } := rfl
@[simp] theorem dropOrder_profiles (s : State) (n : StationNo) (t : Byte) : (s.dropOrder n t).profiles = s.profiles := rfl
@[simp] theorem dropOrder_queue (s : State) (n : StationNo) (t : Byte) : (s.dropOrder n t).queue = s.queue := rfl
@[simp] theorem dropOrder_backlog (s : State) (n : StationNo) (t : Byte) : (s.dropOrder n t).backlog = s.backlog := rfl
@[simp] theorem dropOrder_laneAlert (s : State) (n : StationNo) (t : Byte) : (s.dropOrder n t).laneAlert = s.laneAlert := rfl
@[simp] theorem dropOrder_haltEntered (s : State) (n : StationNo) (t : Byte) : (s.dropOrder n t).haltEntered = s.haltEntered := rfl
@[simp] theorem dropOrder_drainDone (s : State) (n : StationNo) (t : Byte) : (s.dropOrder n t).drainDone = s.drainDone := rfl
@[simp] theorem dropOrder_freeLow (s : State) (n : StationNo) (t : Byte) : (s.dropOrder n t).freeLow = s.freeLow := rfl
@[simp] theorem dropOrder_backlogFlag (s : State) (n : StationNo) (t : Byte) : (s.dropOrder n t).backlogFlag = s.backlogFlag := rfl
@[simp] theorem dropOrder_enables (s : State) (n : StationNo) (t : Byte) : (s.dropOrder n t).enables = s.enables := rfl
@[simp] theorem dropOrder_cmd (s : State) (n : StationNo) (t : Byte) : (s.dropOrder n t).cmd = s.cmd := rfl
@[simp] theorem dropOrder_result (s : State) (n : StationNo) (t : Byte) : (s.dropOrder n t).result = s.result := rfl
@[simp] theorem dropOrder_params (s : State) (n : StationNo) (t : Byte) : (s.dropOrder n t).params = s.params := rfl
@[simp] theorem dropOrder_reply (s : State) (n : StationNo) (t : Byte) : (s.dropOrder n t).reply = s.reply := rfl
@[simp] theorem dropOrder_readData (s : State) (n : StationNo) (t : Byte) : (s.dropOrder n t).readData = s.readData := rfl

/-! ### lanesOff -/

@[simp] theorem lanesOff_pending (s : State) : (lanesOff s).pending = s.pending := rfl
@[simp] theorem lanesOff_inReset (s : State) : (lanesOff s).inReset = s.inReset := rfl
@[simp] theorem lanesOff_timebase (s : State) : (lanesOff s).timebase = s.timebase := rfl
@[simp] theorem lanesOff_divCount (s : State) : (lanesOff s).divCount = s.divCount := rfl
@[simp] theorem lanesOff_p (s : State) : (lanesOff s).p = s.p := rfl
@[simp] theorem lanesOff_k (s : State) : (lanesOff s).k = s.k := rfl
@[simp] theorem lanesOff_encFilter (s : State) : (lanesOff s).encFilter = s.encFilter := rfl
@[simp] theorem lanesOff_advanceDue (s : State) : (lanesOff s).advanceDue = s.advanceDue := rfl
@[simp] theorem lanesOff_latchMid (s : State) : (lanesOff s).latchMid = s.latchMid := rfl
@[simp] theorem lanesOff_latchHigh (s : State) : (lanesOff s).latchHigh = s.latchHigh := rfl
@[simp] theorem lanesOff_run (s : State) : (lanesOff s).run = s.run := rfl
@[simp] theorem lanesOff_haltCause (s : State) : (lanesOff s).haltCause = s.haltCause := rfl
@[simp] theorem lanesOff_xstopFilter (s : State) : (lanesOff s).xstopFilter = s.xstopFilter := rfl
@[simp] theorem lanesOff_xstopEdge (s : State) : (lanesOff s).xstopEdge = s.xstopEdge := rfl
@[simp] theorem lanesOff_lanes (s : State) : (lanesOff s).lanes = s.lanes.map Lane.toOff := rfl
@[simp] theorem lanesOff_items (s : State) : (lanesOff s).items = s.items := rfl
@[simp] theorem lanesOff_announce (s : State) : (lanesOff s).announce = s.announce := rfl
@[simp] theorem lanesOff_tc (s : State) : (lanesOff s).tc = s.tc := rfl
@[simp] theorem lanesOff_freeThreshold (s : State) : (lanesOff s).freeThreshold = s.freeThreshold := rfl
@[simp] theorem lanesOff_stations (s : State) : (lanesOff s).stations = s.stations := rfl
@[simp] theorem lanesOff_profiles (s : State) : (lanesOff s).profiles = s.profiles := rfl
@[simp] theorem lanesOff_queue (s : State) : (lanesOff s).queue = s.queue := rfl
@[simp] theorem lanesOff_backlog (s : State) : (lanesOff s).backlog = s.backlog := rfl
@[simp] theorem lanesOff_laneAlert (s : State) : (lanesOff s).laneAlert = s.laneAlert := rfl
@[simp] theorem lanesOff_haltEntered (s : State) : (lanesOff s).haltEntered = s.haltEntered := rfl
@[simp] theorem lanesOff_drainDone (s : State) : (lanesOff s).drainDone = s.drainDone := rfl
@[simp] theorem lanesOff_freeLow (s : State) : (lanesOff s).freeLow = s.freeLow := rfl
@[simp] theorem lanesOff_backlogFlag (s : State) : (lanesOff s).backlogFlag = s.backlogFlag := rfl
@[simp] theorem lanesOff_enables (s : State) : (lanesOff s).enables = s.enables := rfl
@[simp] theorem lanesOff_cmd (s : State) : (lanesOff s).cmd = s.cmd := rfl
@[simp] theorem lanesOff_result (s : State) : (lanesOff s).result = s.result := rfl
@[simp] theorem lanesOff_params (s : State) : (lanesOff s).params = s.params := rfl
@[simp] theorem lanesOff_reply (s : State) : (lanesOff s).reply = s.reply := rfl
@[simp] theorem lanesOff_readData (s : State) : (lanesOff s).readData = s.readData := rfl

/-! ### Reading back -/

@[simp] theorem lane_setLane_self (s : State) (l : LaneNo) (x : Lane) : (s.setLane l x).lane l = x := by
  simp [State.lane]

@[simp] theorem lane_setLane_ne (s : State) {l m : LaneNo} (x : Lane) (h : m ≠ l) : (s.setLane l x).lane m = s.lane m := by
  have : l.val ≠ m.val := fun e => h (Fin.ext e.symm)
  simp [State.lane, this]

theorem lane_setLane (s : State) (l m : LaneNo) (x : Lane) :
    (s.setLane l x).lane m = if m = l then x else s.lane m := by
  by_cases h : m = l
  · subst h; simp
  · simp [h]

@[simp] theorem station_setStation_self (s : State) (n : StationNo) (x : Station) : (s.setStation n x).station n = x := by
  simp [State.station]

@[simp] theorem station_setStation_ne (s : State) {n m : StationNo} (x : Station) (h : m ≠ n) :
    (s.setStation n x).station m = s.station m := by
  have : n.val ≠ m.val := fun e => h (Fin.ext e.symm)
  simp [State.station, this]

theorem station_setStation (s : State) (n m : StationNo) (x : Station) :
    (s.setStation n x).station m = if m = n then x else s.station m := by
  by_cases h : m = n
  · subst h; simp
  · simp [h]

@[simp] theorem profile_setProfile_self (s : State) (n : ProfileNo) (x : Profile) : (s.setProfile n x).profile n = x := by
  simp [State.profile]

@[simp] theorem profile_setProfile_ne (s : State) {n m : ProfileNo} (x : Profile) (h : m ≠ n) :
    (s.setProfile n x).profile m = s.profile m := by
  have : n.val ≠ m.val := fun e => h (Fin.ext e.symm)
  simp [State.profile, this]

@[simp] theorem lane_lanesOff (s : State) (l : LaneNo) : (lanesOff s).lane l = (s.lane l).toOff := by
  simp [State.lane]

@[simp] theorem station_dropOrder_self (s : State) (n : StationNo) (t : Byte) :
    (s.dropOrder n t).station n = { s.station n with list := (s.station n).list.filter (· != t) } := by
  simp [State.dropOrder]

/-! ### Views that an update does not reach -/

@[simp] theorem lane_setStation (s : State) (n : StationNo) (x : Station) (m : LaneNo) : (s.setStation n x).lane m = s.lane m := rfl
@[simp] theorem lane_setProfile (s : State) (n : ProfileNo) (x : Profile) (m : LaneNo) : (s.setProfile n x).lane m = s.lane m := rfl
@[simp] theorem lane_modifyRecord (s : State) (t : Byte) (f : ItemRecord → ItemRecord) (m : LaneNo) : (s.modifyRecord t f).lane m = s.lane m := rfl
@[simp] theorem lane_freeSlot (s : State) (t : Byte) (m : LaneNo) : (s.freeSlot t).lane m = s.lane m := rfl
@[simp] theorem lane_dropAnnounce (s : State) (t : Byte) (m : LaneNo) : (s.dropAnnounce t).lane m = s.lane m := rfl
@[simp] theorem lane_dropOrder (s : State) (n : StationNo) (t : Byte) (m : LaneNo) : (s.dropOrder n t).lane m = s.lane m := rfl

@[simp] theorem station_setLane (s : State) (l : LaneNo) (x : Lane) (m : StationNo) : (s.setLane l x).station m = s.station m := rfl
@[simp] theorem station_setProfile (s : State) (n : ProfileNo) (x : Profile) (m : StationNo) : (s.setProfile n x).station m = s.station m := rfl
@[simp] theorem station_modifyRecord (s : State) (t : Byte) (f : ItemRecord → ItemRecord) (m : StationNo) : (s.modifyRecord t f).station m = s.station m := rfl
@[simp] theorem station_freeSlot (s : State) (t : Byte) (m : StationNo) : (s.freeSlot t).station m = s.station m := rfl
@[simp] theorem station_dropAnnounce (s : State) (t : Byte) (m : StationNo) : (s.dropAnnounce t).station m = s.station m := rfl
@[simp] theorem station_lanesOff (s : State) (m : StationNo) : (lanesOff s).station m = s.station m := rfl

@[simp] theorem profile_setLane (s : State) (l : LaneNo) (x : Lane) (m : ProfileNo) : (s.setLane l x).profile m = s.profile m := rfl
@[simp] theorem profile_setStation (s : State) (n : StationNo) (x : Station) (m : ProfileNo) : (s.setStation n x).profile m = s.profile m := rfl
@[simp] theorem profile_modifyRecord (s : State) (t : Byte) (f : ItemRecord → ItemRecord) (m : ProfileNo) : (s.modifyRecord t f).profile m = s.profile m := rfl
@[simp] theorem profile_freeSlot (s : State) (t : Byte) (m : ProfileNo) : (s.freeSlot t).profile m = s.profile m := rfl
@[simp] theorem profile_dropAnnounce (s : State) (t : Byte) (m : ProfileNo) : (s.dropAnnounce t).profile m = s.profile m := rfl
@[simp] theorem profile_dropOrder (s : State) (n : StationNo) (t : Byte) (m : ProfileNo) : (s.dropOrder n t).profile m = s.profile m := rfl
@[simp] theorem profile_lanesOff (s : State) (m : ProfileNo) : (lanesOff s).profile m = s.profile m := rfl

@[simp] theorem running_setLane (s : State) (l : LaneNo) (x : Lane) : (s.setLane l x).running = s.running := rfl
@[simp] theorem running_setStation (s : State) (n : StationNo) (x : Station) : (s.setStation n x).running = s.running := rfl
@[simp] theorem running_setProfile (s : State) (n : ProfileNo) (x : Profile) : (s.setProfile n x).running = s.running := rfl
@[simp] theorem running_modifyRecord (s : State) (t : Byte) (f : ItemRecord → ItemRecord) : (s.modifyRecord t f).running = s.running := rfl
@[simp] theorem running_freeSlot (s : State) (t : Byte) : (s.freeSlot t).running = s.running := rfl
@[simp] theorem running_dropAnnounce (s : State) (t : Byte) : (s.dropAnnounce t).running = s.running := rfl
@[simp] theorem running_dropOrder (s : State) (n : StationNo) (t : Byte) : (s.dropOrder n t).running = s.running := rfl
@[simp] theorem running_lanesOff (s : State) : (lanesOff s).running = s.running := rfl

@[simp] theorem xstopActive_setLane (s : State) (l : LaneNo) (x : Lane) : (s.setLane l x).xstopActive = s.xstopActive := rfl
@[simp] theorem xstopActive_setStation (s : State) (n : StationNo) (x : Station) : (s.setStation n x).xstopActive = s.xstopActive := rfl
@[simp] theorem xstopActive_setProfile (s : State) (n : ProfileNo) (x : Profile) : (s.setProfile n x).xstopActive = s.xstopActive := rfl
@[simp] theorem xstopActive_modifyRecord (s : State) (t : Byte) (f : ItemRecord → ItemRecord) : (s.modifyRecord t f).xstopActive = s.xstopActive := rfl
@[simp] theorem xstopActive_freeSlot (s : State) (t : Byte) : (s.freeSlot t).xstopActive = s.xstopActive := rfl
@[simp] theorem xstopActive_dropAnnounce (s : State) (t : Byte) : (s.dropAnnounce t).xstopActive = s.xstopActive := rfl
@[simp] theorem xstopActive_dropOrder (s : State) (n : StationNo) (t : Byte) : (s.dropOrder n t).xstopActive = s.xstopActive := rfl
@[simp] theorem xstopActive_lanesOff (s : State) : (lanesOff s).xstopActive = s.xstopActive := rfl

@[simp] theorem heldRecord_setLane (s : State) (l : LaneNo) (x : Lane) (u : Byte) : (s.setLane l x).heldRecord u = s.heldRecord u := rfl
@[simp] theorem heldRecord_setStation (s : State) (n : StationNo) (x : Station) (u : Byte) : (s.setStation n x).heldRecord u = s.heldRecord u := rfl
@[simp] theorem heldRecord_setProfile (s : State) (n : ProfileNo) (x : Profile) (u : Byte) : (s.setProfile n x).heldRecord u = s.heldRecord u := rfl
@[simp] theorem heldRecord_dropAnnounce (s : State) (t : Byte) (u : Byte) : (s.dropAnnounce t).heldRecord u = s.heldRecord u := rfl
@[simp] theorem heldRecord_dropOrder (s : State) (n : StationNo) (t : Byte) (u : Byte) : (s.dropOrder n t).heldRecord u = s.heldRecord u := rfl
@[simp] theorem heldRecord_lanesOff (s : State) (u : Byte) : (lanesOff s).heldRecord u = s.heldRecord u := rfl

@[simp] theorem liveRecord_setLane (s : State) (l : LaneNo) (x : Lane) (u : Byte) : (s.setLane l x).liveRecord u = s.liveRecord u := rfl
@[simp] theorem liveRecord_setStation (s : State) (n : StationNo) (x : Station) (u : Byte) : (s.setStation n x).liveRecord u = s.liveRecord u := rfl
@[simp] theorem liveRecord_setProfile (s : State) (n : ProfileNo) (x : Profile) (u : Byte) : (s.setProfile n x).liveRecord u = s.liveRecord u := rfl
@[simp] theorem liveRecord_dropAnnounce (s : State) (t : Byte) (u : Byte) : (s.dropAnnounce t).liveRecord u = s.liveRecord u := rfl
@[simp] theorem liveRecord_dropOrder (s : State) (n : StationNo) (t : Byte) (u : Byte) : (s.dropOrder n t).liveRecord u = s.liveRecord u := rfl
@[simp] theorem liveRecord_lanesOff (s : State) (u : Byte) : (lanesOff s).liveRecord u = s.liveRecord u := rfl

@[simp] theorem hasLive_setLane (s : State) (l : LaneNo) (x : Lane) : (s.setLane l x).hasLive = s.hasLive := rfl
@[simp] theorem hasLive_setStation (s : State) (n : StationNo) (x : Station) : (s.setStation n x).hasLive = s.hasLive := rfl
@[simp] theorem hasLive_setProfile (s : State) (n : ProfileNo) (x : Profile) : (s.setProfile n x).hasLive = s.hasLive := rfl
@[simp] theorem hasLive_dropAnnounce (s : State) (t : Byte) : (s.dropAnnounce t).hasLive = s.hasLive := rfl
@[simp] theorem hasLive_dropOrder (s : State) (n : StationNo) (t : Byte) : (s.dropOrder n t).hasLive = s.hasLive := rfl
@[simp] theorem hasLive_lanesOff (s : State) : (lanesOff s).hasLive = s.hasLive := rfl

@[simp] theorem freeCount_setLane (s : State) (l : LaneNo) (x : Lane) : (s.setLane l x).freeCount = s.freeCount := rfl
@[simp] theorem freeCount_setStation (s : State) (n : StationNo) (x : Station) : (s.setStation n x).freeCount = s.freeCount := rfl
@[simp] theorem freeCount_setProfile (s : State) (n : ProfileNo) (x : Profile) : (s.setProfile n x).freeCount = s.freeCount := rfl
@[simp] theorem freeCount_dropAnnounce (s : State) (t : Byte) : (s.dropAnnounce t).freeCount = s.freeCount := rfl
@[simp] theorem freeCount_dropOrder (s : State) (n : StationNo) (t : Byte) : (s.dropOrder n t).freeCount = s.freeCount := rfl
@[simp] theorem freeCount_lanesOff (s : State) : (lanesOff s).freeCount = s.freeCount := rfl

@[simp] theorem queueTakes_setLane (s : State) (l : LaneNo) (x : Lane) : (s.setLane l x).queueTakes = s.queueTakes := rfl
@[simp] theorem queueTakes_setStation (s : State) (n : StationNo) (x : Station) : (s.setStation n x).queueTakes = s.queueTakes := rfl
@[simp] theorem queueTakes_setProfile (s : State) (n : ProfileNo) (x : Profile) : (s.setProfile n x).queueTakes = s.queueTakes := rfl
@[simp] theorem queueTakes_modifyRecord (s : State) (t : Byte) (f : ItemRecord → ItemRecord) : (s.modifyRecord t f).queueTakes = s.queueTakes := rfl
@[simp] theorem queueTakes_freeSlot (s : State) (t : Byte) : (s.freeSlot t).queueTakes = s.queueTakes := rfl
@[simp] theorem queueTakes_dropAnnounce (s : State) (t : Byte) : (s.dropAnnounce t).queueTakes = s.queueTakes := rfl
@[simp] theorem queueTakes_dropOrder (s : State) (n : StationNo) (t : Byte) : (s.dropOrder n t).queueTakes = s.queueTakes := rfl
@[simp] theorem queueTakes_lanesOff (s : State) : (lanesOff s).queueTakes = s.queueTakes := rfl

end Sys2Proof.Machine
end

