-- ==== Sys2Proof/Laws/Ops.lean ====
section
/-! SUPPORT. What the shared operations of Machine/Ops.lean can do: the level filter, the outcome unit's acceptance, the
retirement, the drain completion check, the halt entry, and how an event is taken. -/

namespace Sys2Proof.Machine

/-! ### Positions -/

theorem aheadDist_lt (p x : Pos) : aheadDist p x < 2 ^ 24 := (x - p).isLt

theorem aheadDist_self (p : Pos) : aheadDist p p = 0 := by simp [aheadDist]

theorem isAhead_iff (p x : Pos) : isAhead p x = true ↔ 1 ≤ aheadDist p x ∧ aheadDist p x ≤ 8388607 := by
  simp [isAhead]

/-! ### The level filter (R2) -/

/-- A sample equal to Q clears C and makes no edge. -/
theorem filterSample_same (f : Filter) (n : Nat) : filterSample f n f.q = (⟨f.q, 0⟩, none) := by simp [filterSample]

/-- An edge occurs exactly when the sample differs from Q and C + 1 has reached the depth. -/
theorem filterSample_edge (f : Filter) (n : Nat) (l : Level) (d : EdgeDir) :
    (filterSample f n l).2 = some d ↔ l ≠ f.q ∧ n ≤ f.c + 1 ∧ d = edgeTo l := by
  unfold filterSample
  by_cases h : l = f.q
  · simp [h]
  · by_cases hn : f.c + 1 < n
    · simp only [h, hn, if_true, if_false, reduceCtorEq, false_iff]; omega
    · simp only [h, hn, if_false, Option.some.injEq]
      constructor
      · intro e; exact ⟨h, by omega, e.symm⟩
      · intro e; exact e.2.2.symm

/-- Q changes exactly by a qualified edge, to the level the edge leads to. -/
theorem filterSample_q (f : Filter) (n : Nat) (l : Level) :
    (filterSample f n l).1.q = (match (filterSample f n l).2 with | none => f.q | some d => edgeLevel d) := by
  unfold filterSample
  by_cases h : l = f.q
  · simp [h]
  · by_cases hn : f.c + 1 < n
    · simp [h, hn]
    · cases l <;> simp [h, hn, edgeTo, edgeLevel]

@[simp] theorem filterAt_q (f : Filter) (l : Level) : (filterAt f l).q = l := by
  unfold filterAt; split <;> simp_all

@[simp] theorem filterNewDepth_q (f : Filter) : (filterNewDepth f).q = f.q := rfl

@[simp] theorem filterNewDepth_c (f : Filter) : (filterNewDepth f).c = 0 := rfl

/-! ### Events -/

/-- Held in reset, no event is taken (R162). -/
theorem event_held {f : State → State} {s : State} (h : s.inReset = true) : event f s = s := by simp [event, h]

theorem event_taken {f : State → State} {s : State} (h : s.inReset = false) : event f s = f s := by simp [event, h]

/-! ### Acceptance and retirement (R69, R70, R140) -/

/-- Room in the queue and no backlog: the outcome record enters the queue and the slot is free. -/
theorem accept_queued {s : State} {r : ItemRecord} {code : OutcomeCode} (h : s.queueTakes = true) :
    s.accept r code = { s.freeSlot r.tag with queue := s.queue ++ [outcomeOf r code] } := by simp [State.accept, h]

/-- No room: the record stays as RETIRED and joins the tail of the backlog. -/
theorem accept_backlogged {s : State} {r : ItemRecord} {code : OutcomeCode} (h : s.queueTakes = false) :
    s.accept r code =
      { s.modifyRecord r.tag (fun x => { x with state := .retired, outcome := some code }) with
        backlog := s.backlog ++ [r.tag], backlogFlag := s.backlogFlag || s.backlog.isEmpty } := by
  simp [State.accept, h]

/-- Where no live record holds the tag, nothing retires (R70). -/
theorem retire_absent {s : State} {t : Byte} {code : OutcomeCode} (h : s.liveRecord t = none) : retire t code s = s := by
  simp [retire, h]

theorem retire_live {s : State} {t : Byte} {code : OutcomeCode} {r : ItemRecord} (h : s.liveRecord t = some r) :
    retire t code s = ((s.dropAnnounce t).dropListed r).accept r code := by simp [retire, h]

/-- The record found by its tag holds the tag, is in the table and is live. -/
theorem liveRecord_spec {s : State} {t : Byte} {r : ItemRecord} (h : s.liveRecord t = some r) :
    r ∈ s.items ∧ r.tag = t ∧ r.isLive = true := by
  have h1 := List.mem_of_find?_eq_some h
  have h2 := List.find?_some h
  simp only [Bool.and_eq_true, beq_iff_eq] at h2
  exact ⟨h1, h2.1, h2.2⟩

theorem heldRecord_spec {s : State} {t : Byte} {r : ItemRecord} (h : s.heldRecord t = some r) :
    r ∈ s.items ∧ r.tag = t := by
  have h1 := List.mem_of_find?_eq_some h
  have h2 := List.find?_some h
  simp only [beq_iff_eq] at h2
  exact ⟨h1, h2⟩

/-! ### Drain completion (R19) -/

theorem drainCheck_done {s : State} (h : s.run = .drain) (hl : s.hasLive = false) : drainCheck s = drainComplete s := by
  simp [drainCheck, h, hl]

theorem drainCheck_notDrain {s : State} (h : s.run ≠ .drain) : drainCheck s = s := by simp [drainCheck, h]

theorem drainCheck_live {s : State} (h : s.hasLive = true) : drainCheck s = s := by simp [drainCheck, h]

/-- The run state after the check: IDLE, or as before. -/
theorem drainCheck_run (s : State) : (drainCheck s).run = .idle ∨ (drainCheck s).run = s.run := by
  unfold drainCheck; split <;> simp [drainComplete]

/-! ### What accept leaves unchanged -/

@[simp] theorem accept_pending (s : State) (r : ItemRecord) (c : OutcomeCode) : (s.accept r c).pending = s.pending := by
  unfold State.accept; split <;> rfl
@[simp] theorem accept_inReset (s : State) (r : ItemRecord) (c : OutcomeCode) : (s.accept r c).inReset = s.inReset := by
  unfold State.accept; split <;> rfl
@[simp] theorem accept_timebase (s : State) (r : ItemRecord) (c : OutcomeCode) : (s.accept r c).timebase = s.timebase := by
  unfold State.accept; split <;> rfl
@[simp] theorem accept_divCount (s : State) (r : ItemRecord) (c : OutcomeCode) : (s.accept r c).divCount = s.divCount := by
  unfold State.accept; split <;> rfl
@[simp] theorem accept_p (s : State) (r : ItemRecord) (c : OutcomeCode) : (s.accept r c).p = s.p := by
  unfold State.accept; split <;> rfl
@[simp] theorem accept_k (s : State) (r : ItemRecord) (c : OutcomeCode) : (s.accept r c).k = s.k := by
  unfold State.accept; split <;> rfl
@[simp] theorem accept_encFilter (s : State) (r : ItemRecord) (c : OutcomeCode) : (s.accept r c).encFilter = s.encFilter := by
  unfold State.accept; split <;> rfl
@[simp] theorem accept_advanceDue (s : State) (r : ItemRecord) (c : OutcomeCode) : (s.accept r c).advanceDue = s.advanceDue := by
  unfold State.accept; split <;> rfl
@[simp] theorem accept_latchMid (s : State) (r : ItemRecord) (c : OutcomeCode) : (s.accept r c).latchMid = s.latchMid := by
  unfold State.accept; split <;> rfl
@[simp] theorem accept_latchHigh (s : State) (r : ItemRecord) (c : OutcomeCode) : (s.accept r c).latchHigh = s.latchHigh := by
  unfold State.accept; split <;> rfl
@[simp] theorem accept_run (s : State) (r : ItemRecord) (c : OutcomeCode) : (s.accept r c).run = s.run := by
  unfold State.accept; split <;> rfl
@[simp] theorem accept_haltCause (s : State) (r : ItemRecord) (c : OutcomeCode) : (s.accept r c).haltCause = s.haltCause := by
  unfold State.accept; split <;> rfl
@[simp] theorem accept_xstopFilter (s : State) (r : ItemRecord) (c : OutcomeCode) : (s.accept r c).xstopFilter = s.xstopFilter := by
  unfold State.accept; split <;> rfl
@[simp] theorem accept_xstopEdge (s : State) (r : ItemRecord) (c : OutcomeCode) : (s.accept r c).xstopEdge = s.xstopEdge := by
  unfold State.accept; split <;> rfl
@[simp] theorem accept_lanes (s : State) (r : ItemRecord) (c : OutcomeCode) : (s.accept r c).lanes = s.lanes := by
  unfold State.accept; split <;> rfl
@[simp] theorem accept_announce (s : State) (r : ItemRecord) (c : OutcomeCode) : (s.accept r c).announce = s.announce := by
  unfold State.accept; split <;> rfl
@[simp] theorem accept_tc (s : State) (r : ItemRecord) (c : OutcomeCode) : (s.accept r c).tc = s.tc := by
  unfold State.accept; split <;> rfl
@[simp] theorem accept_freeThreshold (s : State) (r : ItemRecord) (c : OutcomeCode) : (s.accept r c).freeThreshold = s.freeThreshold := by
  unfold State.accept; split <;> rfl
@[simp] theorem accept_stations (s : State) (r : ItemRecord) (c : OutcomeCode) : (s.accept r c).stations = s.stations := by
  unfold State.accept; split <;> rfl
@[simp] theorem accept_profiles (s : State) (r : ItemRecord) (c : OutcomeCode) : (s.accept r c).profiles = s.profiles := by
  unfold State.accept; split <;> rfl
@[simp] theorem accept_laneAlert (s : State) (r : ItemRecord) (c : OutcomeCode) : (s.accept r c).laneAlert = s.laneAlert := by
  unfold State.accept; split <;> rfl
@[simp] theorem accept_haltEntered (s : State) (r : ItemRecord) (c : OutcomeCode) : (s.accept r c).haltEntered = s.haltEntered := by
  unfold State.accept; split <;> rfl
@[simp] theorem accept_drainDone (s : State) (r : ItemRecord) (c : OutcomeCode) : (s.accept r c).drainDone = s.drainDone := by
  unfold State.accept; split <;> rfl
@[simp] theorem accept_freeLow (s : State) (r : ItemRecord) (c : OutcomeCode) : (s.accept r c).freeLow = s.freeLow := by
  unfold State.accept; split <;> rfl
@[simp] theorem accept_enables (s : State) (r : ItemRecord) (c : OutcomeCode) : (s.accept r c).enables = s.enables := by
  unfold State.accept; split <;> rfl
@[simp] theorem accept_cmd (s : State) (r : ItemRecord) (c : OutcomeCode) : (s.accept r c).cmd = s.cmd := by
  unfold State.accept; split <;> rfl
@[simp] theorem accept_result (s : State) (r : ItemRecord) (c : OutcomeCode) : (s.accept r c).result = s.result := by
  unfold State.accept; split <;> rfl
@[simp] theorem accept_params (s : State) (r : ItemRecord) (c : OutcomeCode) : (s.accept r c).params = s.params := by
  unfold State.accept; split <;> rfl
@[simp] theorem accept_reply (s : State) (r : ItemRecord) (c : OutcomeCode) : (s.accept r c).reply = s.reply := by
  unfold State.accept; split <;> rfl
@[simp] theorem accept_readData (s : State) (r : ItemRecord) (c : OutcomeCode) : (s.accept r c).readData = s.readData := by
  unfold State.accept; split <;> rfl

/-! ### What dropListed leaves unchanged -/

@[simp] theorem dropListed_pending (s : State) (r : ItemRecord) : (s.dropListed r).pending = s.pending := by
  unfold State.dropListed; split <;> rfl
@[simp] theorem dropListed_inReset (s : State) (r : ItemRecord) : (s.dropListed r).inReset = s.inReset := by
  unfold State.dropListed; split <;> rfl
@[simp] theorem dropListed_timebase (s : State) (r : ItemRecord) : (s.dropListed r).timebase = s.timebase := by
  unfold State.dropListed; split <;> rfl
@[simp] theorem dropListed_divCount (s : State) (r : ItemRecord) : (s.dropListed r).divCount = s.divCount := by
  unfold State.dropListed; split <;> rfl
@[simp] theorem dropListed_p (s : State) (r : ItemRecord) : (s.dropListed r).p = s.p := by
  unfold State.dropListed; split <;> rfl
@[simp] theorem dropListed_k (s : State) (r : ItemRecord) : (s.dropListed r).k = s.k := by
  unfold State.dropListed; split <;> rfl
@[simp] theorem dropListed_encFilter (s : State) (r : ItemRecord) : (s.dropListed r).encFilter = s.encFilter := by
  unfold State.dropListed; split <;> rfl
@[simp] theorem dropListed_advanceDue (s : State) (r : ItemRecord) : (s.dropListed r).advanceDue = s.advanceDue := by
  unfold State.dropListed; split <;> rfl
@[simp] theorem dropListed_latchMid (s : State) (r : ItemRecord) : (s.dropListed r).latchMid = s.latchMid := by
  unfold State.dropListed; split <;> rfl
@[simp] theorem dropListed_latchHigh (s : State) (r : ItemRecord) : (s.dropListed r).latchHigh = s.latchHigh := by
  unfold State.dropListed; split <;> rfl
@[simp] theorem dropListed_run (s : State) (r : ItemRecord) : (s.dropListed r).run = s.run := by
  unfold State.dropListed; split <;> rfl
@[simp] theorem dropListed_haltCause (s : State) (r : ItemRecord) : (s.dropListed r).haltCause = s.haltCause := by
  unfold State.dropListed; split <;> rfl
@[simp] theorem dropListed_xstopFilter (s : State) (r : ItemRecord) : (s.dropListed r).xstopFilter = s.xstopFilter := by
  unfold State.dropListed; split <;> rfl
@[simp] theorem dropListed_xstopEdge (s : State) (r : ItemRecord) : (s.dropListed r).xstopEdge = s.xstopEdge := by
  unfold State.dropListed; split <;> rfl
@[simp] theorem dropListed_lanes (s : State) (r : ItemRecord) : (s.dropListed r).lanes = s.lanes := by
  unfold State.dropListed; split <;> rfl
@[simp] theorem dropListed_items (s : State) (r : ItemRecord) : (s.dropListed r).items = s.items := by
  unfold State.dropListed; split <;> rfl
@[simp] theorem dropListed_announce (s : State) (r : ItemRecord) : (s.dropListed r).announce = s.announce := by
  unfold State.dropListed; split <;> rfl
@[simp] theorem dropListed_tc (s : State) (r : ItemRecord) : (s.dropListed r).tc = s.tc := by
  unfold State.dropListed; split <;> rfl
@[simp] theorem dropListed_freeThreshold (s : State) (r : ItemRecord) : (s.dropListed r).freeThreshold = s.freeThreshold := by
  unfold State.dropListed; split <;> rfl
@[simp] theorem dropListed_profiles (s : State) (r : ItemRecord) : (s.dropListed r).profiles = s.profiles := by
  unfold State.dropListed; split <;> rfl
@[simp] theorem dropListed_queue (s : State) (r : ItemRecord) : (s.dropListed r).queue = s.queue := by
  unfold State.dropListed; split <;> rfl
@[simp] theorem dropListed_backlog (s : State) (r : ItemRecord) : (s.dropListed r).backlog = s.backlog := by
  unfold State.dropListed; split <;> rfl
@[simp] theorem dropListed_laneAlert (s : State) (r : ItemRecord) : (s.dropListed r).laneAlert = s.laneAlert := by
  unfold State.dropListed; split <;> rfl
@[simp] theorem dropListed_haltEntered (s : State) (r : ItemRecord) : (s.dropListed r).haltEntered = s.haltEntered := by
  unfold State.dropListed; split <;> rfl
@[simp] theorem dropListed_drainDone (s : State) (r : ItemRecord) : (s.dropListed r).drainDone = s.drainDone := by
  unfold State.dropListed; split <;> rfl
@[simp] theorem dropListed_freeLow (s : State) (r : ItemRecord) : (s.dropListed r).freeLow = s.freeLow := by
  unfold State.dropListed; split <;> rfl
@[simp] theorem dropListed_backlogFlag (s : State) (r : ItemRecord) : (s.dropListed r).backlogFlag = s.backlogFlag := by
  unfold State.dropListed; split <;> rfl
@[simp] theorem dropListed_enables (s : State) (r : ItemRecord) : (s.dropListed r).enables = s.enables := by
  unfold State.dropListed; split <;> rfl
@[simp] theorem dropListed_cmd (s : State) (r : ItemRecord) : (s.dropListed r).cmd = s.cmd := by
  unfold State.dropListed; split <;> rfl
@[simp] theorem dropListed_result (s : State) (r : ItemRecord) : (s.dropListed r).result = s.result := by
  unfold State.dropListed; split <;> rfl
@[simp] theorem dropListed_params (s : State) (r : ItemRecord) : (s.dropListed r).params = s.params := by
  unfold State.dropListed; split <;> rfl
@[simp] theorem dropListed_reply (s : State) (r : ItemRecord) : (s.dropListed r).reply = s.reply := by
  unfold State.dropListed; split <;> rfl
@[simp] theorem dropListed_readData (s : State) (r : ItemRecord) : (s.dropListed r).readData = s.readData := by
  unfold State.dropListed; split <;> rfl

/-! ### What retire leaves unchanged -/

@[simp] theorem retire_pending (s : State) (t : Byte) (c : OutcomeCode) : (retire t c s).pending = s.pending := by
  unfold retire; split <;> simp
@[simp] theorem retire_inReset (s : State) (t : Byte) (c : OutcomeCode) : (retire t c s).inReset = s.inReset := by
  unfold retire; split <;> simp
@[simp] theorem retire_timebase (s : State) (t : Byte) (c : OutcomeCode) : (retire t c s).timebase = s.timebase := by
  unfold retire; split <;> simp
@[simp] theorem retire_divCount (s : State) (t : Byte) (c : OutcomeCode) : (retire t c s).divCount = s.divCount := by
  unfold retire; split <;> simp
@[simp] theorem retire_p (s : State) (t : Byte) (c : OutcomeCode) : (retire t c s).p = s.p := by
  unfold retire; split <;> simp
@[simp] theorem retire_k (s : State) (t : Byte) (c : OutcomeCode) : (retire t c s).k = s.k := by
  unfold retire; split <;> simp
@[simp] theorem retire_encFilter (s : State) (t : Byte) (c : OutcomeCode) : (retire t c s).encFilter = s.encFilter := by
  unfold retire; split <;> simp
@[simp] theorem retire_advanceDue (s : State) (t : Byte) (c : OutcomeCode) : (retire t c s).advanceDue = s.advanceDue := by
  unfold retire; split <;> simp
@[simp] theorem retire_latchMid (s : State) (t : Byte) (c : OutcomeCode) : (retire t c s).latchMid = s.latchMid := by
  unfold retire; split <;> simp
@[simp] theorem retire_latchHigh (s : State) (t : Byte) (c : OutcomeCode) : (retire t c s).latchHigh = s.latchHigh := by
  unfold retire; split <;> simp
@[simp] theorem retire_run (s : State) (t : Byte) (c : OutcomeCode) : (retire t c s).run = s.run := by
  unfold retire; split <;> simp
@[simp] theorem retire_haltCause (s : State) (t : Byte) (c : OutcomeCode) : (retire t c s).haltCause = s.haltCause := by
  unfold retire; split <;> simp
@[simp] theorem retire_xstopFilter (s : State) (t : Byte) (c : OutcomeCode) : (retire t c s).xstopFilter = s.xstopFilter := by
  unfold retire; split <;> simp
@[simp] theorem retire_xstopEdge (s : State) (t : Byte) (c : OutcomeCode) : (retire t c s).xstopEdge = s.xstopEdge := by
  unfold retire; split <;> simp
@[simp] theorem retire_lanes (s : State) (t : Byte) (c : OutcomeCode) : (retire t c s).lanes = s.lanes := by
  unfold retire; split <;> simp
@[simp] theorem retire_tc (s : State) (t : Byte) (c : OutcomeCode) : (retire t c s).tc = s.tc := by
  unfold retire; split <;> simp
@[simp] theorem retire_freeThreshold (s : State) (t : Byte) (c : OutcomeCode) : (retire t c s).freeThreshold = s.freeThreshold := by
  unfold retire; split <;> simp
@[simp] theorem retire_profiles (s : State) (t : Byte) (c : OutcomeCode) : (retire t c s).profiles = s.profiles := by
  unfold retire; split <;> simp
@[simp] theorem retire_laneAlert (s : State) (t : Byte) (c : OutcomeCode) : (retire t c s).laneAlert = s.laneAlert := by
  unfold retire; split <;> simp
@[simp] theorem retire_haltEntered (s : State) (t : Byte) (c : OutcomeCode) : (retire t c s).haltEntered = s.haltEntered := by
  unfold retire; split <;> simp
@[simp] theorem retire_drainDone (s : State) (t : Byte) (c : OutcomeCode) : (retire t c s).drainDone = s.drainDone := by
  unfold retire; split <;> simp
@[simp] theorem retire_freeLow (s : State) (t : Byte) (c : OutcomeCode) : (retire t c s).freeLow = s.freeLow := by
  unfold retire; split <;> simp
@[simp] theorem retire_enables (s : State) (t : Byte) (c : OutcomeCode) : (retire t c s).enables = s.enables := by
  unfold retire; split <;> simp
@[simp] theorem retire_cmd (s : State) (t : Byte) (c : OutcomeCode) : (retire t c s).cmd = s.cmd := by
  unfold retire; split <;> simp
@[simp] theorem retire_result (s : State) (t : Byte) (c : OutcomeCode) : (retire t c s).result = s.result := by
  unfold retire; split <;> simp
@[simp] theorem retire_params (s : State) (t : Byte) (c : OutcomeCode) : (retire t c s).params = s.params := by
  unfold retire; split <;> simp
@[simp] theorem retire_reply (s : State) (t : Byte) (c : OutcomeCode) : (retire t c s).reply = s.reply := by
  unfold retire; split <;> simp
@[simp] theorem retire_readData (s : State) (t : Byte) (c : OutcomeCode) : (retire t c s).readData = s.readData := by
  unfold retire; split <;> simp

/-! ### What drainComplete leaves unchanged -/

@[simp] theorem drainComplete_pending (s : State) : (drainComplete s).pending = s.pending := rfl
@[simp] theorem drainComplete_inReset (s : State) : (drainComplete s).inReset = s.inReset := rfl
@[simp] theorem drainComplete_timebase (s : State) : (drainComplete s).timebase = s.timebase := rfl
@[simp] theorem drainComplete_divCount (s : State) : (drainComplete s).divCount = s.divCount := rfl
@[simp] theorem drainComplete_p (s : State) : (drainComplete s).p = s.p := rfl
@[simp] theorem drainComplete_k (s : State) : (drainComplete s).k = s.k := rfl
@[simp] theorem drainComplete_encFilter (s : State) : (drainComplete s).encFilter = s.encFilter := rfl
@[simp] theorem drainComplete_latchMid (s : State) : (drainComplete s).latchMid = s.latchMid := rfl
@[simp] theorem drainComplete_latchHigh (s : State) : (drainComplete s).latchHigh = s.latchHigh := rfl
@[simp] theorem drainComplete_haltCause (s : State) : (drainComplete s).haltCause = s.haltCause := rfl
@[simp] theorem drainComplete_xstopFilter (s : State) : (drainComplete s).xstopFilter = s.xstopFilter := rfl
@[simp] theorem drainComplete_xstopEdge (s : State) : (drainComplete s).xstopEdge = s.xstopEdge := rfl
@[simp] theorem drainComplete_items (s : State) : (drainComplete s).items = s.items := rfl
@[simp] theorem drainComplete_announce (s : State) : (drainComplete s).announce = s.announce := rfl
@[simp] theorem drainComplete_tc (s : State) : (drainComplete s).tc = s.tc := rfl
@[simp] theorem drainComplete_freeThreshold (s : State) : (drainComplete s).freeThreshold = s.freeThreshold := rfl
@[simp] theorem drainComplete_stations (s : State) : (drainComplete s).stations = s.stations := rfl
@[simp] theorem drainComplete_profiles (s : State) : (drainComplete s).profiles = s.profiles := rfl
@[simp] theorem drainComplete_queue (s : State) : (drainComplete s).queue = s.queue := rfl
@[simp] theorem drainComplete_backlog (s : State) : (drainComplete s).backlog = s.backlog := rfl
@[simp] theorem drainComplete_laneAlert (s : State) : (drainComplete s).laneAlert = s.laneAlert := rfl
@[simp] theorem drainComplete_haltEntered (s : State) : (drainComplete s).haltEntered = s.haltEntered := rfl
@[simp] theorem drainComplete_freeLow (s : State) : (drainComplete s).freeLow = s.freeLow := rfl
@[simp] theorem drainComplete_backlogFlag (s : State) : (drainComplete s).backlogFlag = s.backlogFlag := rfl
@[simp] theorem drainComplete_enables (s : State) : (drainComplete s).enables = s.enables := rfl
@[simp] theorem drainComplete_cmd (s : State) : (drainComplete s).cmd = s.cmd := rfl
@[simp] theorem drainComplete_result (s : State) : (drainComplete s).result = s.result := rfl
@[simp] theorem drainComplete_params (s : State) : (drainComplete s).params = s.params := rfl
@[simp] theorem drainComplete_reply (s : State) : (drainComplete s).reply = s.reply := rfl
@[simp] theorem drainComplete_readData (s : State) : (drainComplete s).readData = s.readData := rfl

/-! ### What drainCheck leaves unchanged -/

@[simp] theorem drainCheck_pending (s : State) : (drainCheck s).pending = s.pending := by
  unfold drainCheck; split <;> rfl
@[simp] theorem drainCheck_inReset (s : State) : (drainCheck s).inReset = s.inReset := by
  unfold drainCheck; split <;> rfl
@[simp] theorem drainCheck_timebase (s : State) : (drainCheck s).timebase = s.timebase := by
  unfold drainCheck; split <;> rfl
@[simp] theorem drainCheck_divCount (s : State) : (drainCheck s).divCount = s.divCount := by
  unfold drainCheck; split <;> rfl
@[simp] theorem drainCheck_p (s : State) : (drainCheck s).p = s.p := by
  unfold drainCheck; split <;> rfl
@[simp] theorem drainCheck_k (s : State) : (drainCheck s).k = s.k := by
  unfold drainCheck; split <;> rfl
@[simp] theorem drainCheck_encFilter (s : State) : (drainCheck s).encFilter = s.encFilter := by
  unfold drainCheck; split <;> rfl
@[simp] theorem drainCheck_latchMid (s : State) : (drainCheck s).latchMid = s.latchMid := by
  unfold drainCheck; split <;> rfl
@[simp] theorem drainCheck_latchHigh (s : State) : (drainCheck s).latchHigh = s.latchHigh := by
  unfold drainCheck; split <;> rfl
@[simp] theorem drainCheck_haltCause (s : State) : (drainCheck s).haltCause = s.haltCause := by
  unfold drainCheck; split <;> rfl
@[simp] theorem drainCheck_xstopFilter (s : State) : (drainCheck s).xstopFilter = s.xstopFilter := by
  unfold drainCheck; split <;> rfl
@[simp] theorem drainCheck_xstopEdge (s : State) : (drainCheck s).xstopEdge = s.xstopEdge := by
  unfold drainCheck; split <;> rfl
@[simp] theorem drainCheck_items (s : State) : (drainCheck s).items = s.items := by
  unfold drainCheck; split <;> rfl
@[simp] theorem drainCheck_announce (s : State) : (drainCheck s).announce = s.announce := by
  unfold drainCheck; split <;> rfl
@[simp] theorem drainCheck_tc (s : State) : (drainCheck s).tc = s.tc := by
  unfold drainCheck; split <;> rfl
@[simp] theorem drainCheck_freeThreshold (s : State) : (drainCheck s).freeThreshold = s.freeThreshold := by
  unfold drainCheck; split <;> rfl
@[simp] theorem drainCheck_stations (s : State) : (drainCheck s).stations = s.stations := by
  unfold drainCheck; split <;> rfl
@[simp] theorem drainCheck_profiles (s : State) : (drainCheck s).profiles = s.profiles := by
  unfold drainCheck; split <;> rfl
@[simp] theorem drainCheck_queue (s : State) : (drainCheck s).queue = s.queue := by
  unfold drainCheck; split <;> rfl
@[simp] theorem drainCheck_backlog (s : State) : (drainCheck s).backlog = s.backlog := by
  unfold drainCheck; split <;> rfl
@[simp] theorem drainCheck_laneAlert (s : State) : (drainCheck s).laneAlert = s.laneAlert := by
  unfold drainCheck; split <;> rfl
@[simp] theorem drainCheck_haltEntered (s : State) : (drainCheck s).haltEntered = s.haltEntered := by
  unfold drainCheck; split <;> rfl
@[simp] theorem drainCheck_freeLow (s : State) : (drainCheck s).freeLow = s.freeLow := by
  unfold drainCheck; split <;> rfl
@[simp] theorem drainCheck_backlogFlag (s : State) : (drainCheck s).backlogFlag = s.backlogFlag := by
  unfold drainCheck; split <;> rfl
@[simp] theorem drainCheck_enables (s : State) : (drainCheck s).enables = s.enables := by
  unfold drainCheck; split <;> rfl
@[simp] theorem drainCheck_cmd (s : State) : (drainCheck s).cmd = s.cmd := by
  unfold drainCheck; split <;> rfl
@[simp] theorem drainCheck_result (s : State) : (drainCheck s).result = s.result := by
  unfold drainCheck; split <;> rfl
@[simp] theorem drainCheck_params (s : State) : (drainCheck s).params = s.params := by
  unfold drainCheck; split <;> rfl
@[simp] theorem drainCheck_reply (s : State) : (drainCheck s).reply = s.reply := by
  unfold drainCheck; split <;> rfl
@[simp] theorem drainCheck_readData (s : State) : (drainCheck s).readData = s.readData := by
  unfold drainCheck; split <;> rfl

/-! ### What retireAndCheck leaves unchanged -/

@[simp] theorem retireAndCheck_pending (s : State) (t : Byte) (c : OutcomeCode) : (retireAndCheck t c s).pending = s.pending := by
  simp [retireAndCheck]
@[simp] theorem retireAndCheck_inReset (s : State) (t : Byte) (c : OutcomeCode) : (retireAndCheck t c s).inReset = s.inReset := by
  simp [retireAndCheck]
@[simp] theorem retireAndCheck_timebase (s : State) (t : Byte) (c : OutcomeCode) : (retireAndCheck t c s).timebase = s.timebase := by
  simp [retireAndCheck]
@[simp] theorem retireAndCheck_divCount (s : State) (t : Byte) (c : OutcomeCode) : (retireAndCheck t c s).divCount = s.divCount := by
  simp [retireAndCheck]
@[simp] theorem retireAndCheck_p (s : State) (t : Byte) (c : OutcomeCode) : (retireAndCheck t c s).p = s.p := by
  simp [retireAndCheck]
@[simp] theorem retireAndCheck_k (s : State) (t : Byte) (c : OutcomeCode) : (retireAndCheck t c s).k = s.k := by
  simp [retireAndCheck]
@[simp] theorem retireAndCheck_encFilter (s : State) (t : Byte) (c : OutcomeCode) : (retireAndCheck t c s).encFilter = s.encFilter := by
  simp [retireAndCheck]
@[simp] theorem retireAndCheck_latchMid (s : State) (t : Byte) (c : OutcomeCode) : (retireAndCheck t c s).latchMid = s.latchMid := by
  simp [retireAndCheck]
@[simp] theorem retireAndCheck_latchHigh (s : State) (t : Byte) (c : OutcomeCode) : (retireAndCheck t c s).latchHigh = s.latchHigh := by
  simp [retireAndCheck]
@[simp] theorem retireAndCheck_haltCause (s : State) (t : Byte) (c : OutcomeCode) : (retireAndCheck t c s).haltCause = s.haltCause := by
  simp [retireAndCheck]
@[simp] theorem retireAndCheck_xstopFilter (s : State) (t : Byte) (c : OutcomeCode) : (retireAndCheck t c s).xstopFilter = s.xstopFilter := by
  simp [retireAndCheck]
@[simp] theorem retireAndCheck_xstopEdge (s : State) (t : Byte) (c : OutcomeCode) : (retireAndCheck t c s).xstopEdge = s.xstopEdge := by
  simp [retireAndCheck]
@[simp] theorem retireAndCheck_tc (s : State) (t : Byte) (c : OutcomeCode) : (retireAndCheck t c s).tc = s.tc := by
  simp [retireAndCheck]
@[simp] theorem retireAndCheck_freeThreshold (s : State) (t : Byte) (c : OutcomeCode) : (retireAndCheck t c s).freeThreshold = s.freeThreshold := by
  simp [retireAndCheck]
@[simp] theorem retireAndCheck_profiles (s : State) (t : Byte) (c : OutcomeCode) : (retireAndCheck t c s).profiles = s.profiles := by
  simp [retireAndCheck]
@[simp] theorem retireAndCheck_laneAlert (s : State) (t : Byte) (c : OutcomeCode) : (retireAndCheck t c s).laneAlert = s.laneAlert := by
  simp [retireAndCheck]
@[simp] theorem retireAndCheck_haltEntered (s : State) (t : Byte) (c : OutcomeCode) : (retireAndCheck t c s).haltEntered = s.haltEntered := by
  simp [retireAndCheck]
@[simp] theorem retireAndCheck_freeLow (s : State) (t : Byte) (c : OutcomeCode) : (retireAndCheck t c s).freeLow = s.freeLow := by
  simp [retireAndCheck]
@[simp] theorem retireAndCheck_enables (s : State) (t : Byte) (c : OutcomeCode) : (retireAndCheck t c s).enables = s.enables := by
  simp [retireAndCheck]
@[simp] theorem retireAndCheck_cmd (s : State) (t : Byte) (c : OutcomeCode) : (retireAndCheck t c s).cmd = s.cmd := by
  simp [retireAndCheck]
@[simp] theorem retireAndCheck_result (s : State) (t : Byte) (c : OutcomeCode) : (retireAndCheck t c s).result = s.result := by
  simp [retireAndCheck]
@[simp] theorem retireAndCheck_params (s : State) (t : Byte) (c : OutcomeCode) : (retireAndCheck t c s).params = s.params := by
  simp [retireAndCheck]
@[simp] theorem retireAndCheck_reply (s : State) (t : Byte) (c : OutcomeCode) : (retireAndCheck t c s).reply = s.reply := by
  simp [retireAndCheck]
@[simp] theorem retireAndCheck_readData (s : State) (t : Byte) (c : OutcomeCode) : (retireAndCheck t c s).readData = s.readData := by
  simp [retireAndCheck]

/-! ### Retirements one after the other -/

/-- A field that each step of a fold keeps is kept by the fold. -/
theorem foldl_keeps {α β : Type} (g : State → α) (f : State → β → State) (h : ∀ a b, g (f a b) = g a) (xs : List β)
    (s : State) : g (xs.foldl f s) = g s := by
  induction xs generalizing s with
  | nil => rfl
  | cons x xs ih => simp [ih, h]

/-! ### What retireAll leaves unchanged -/

@[simp] theorem retireAll_pending (ts : List Byte) (c : OutcomeCode) (s : State) : (ts.foldl (fun a t => retire t c a) s).pending = s.pending := 
  foldl_keeps State.pending _ (fun a t => retire_pending a t c) ts s
@[simp] theorem retireAll_inReset (ts : List Byte) (c : OutcomeCode) (s : State) : (ts.foldl (fun a t => retire t c a) s).inReset = s.inReset := 
  foldl_keeps State.inReset _ (fun a t => retire_inReset a t c) ts s
@[simp] theorem retireAll_timebase (ts : List Byte) (c : OutcomeCode) (s : State) : (ts.foldl (fun a t => retire t c a) s).timebase = s.timebase := 
  foldl_keeps State.timebase _ (fun a t => retire_timebase a t c) ts s
@[simp] theorem retireAll_divCount (ts : List Byte) (c : OutcomeCode) (s : State) : (ts.foldl (fun a t => retire t c a) s).divCount = s.divCount := 
  foldl_keeps State.divCount _ (fun a t => retire_divCount a t c) ts s
@[simp] theorem retireAll_p (ts : List Byte) (c : OutcomeCode) (s : State) : (ts.foldl (fun a t => retire t c a) s).p = s.p := 
  foldl_keeps State.p _ (fun a t => retire_p a t c) ts s
@[simp] theorem retireAll_k (ts : List Byte) (c : OutcomeCode) (s : State) : (ts.foldl (fun a t => retire t c a) s).k = s.k := 
  foldl_keeps State.k _ (fun a t => retire_k a t c) ts s
@[simp] theorem retireAll_encFilter (ts : List Byte) (c : OutcomeCode) (s : State) : (ts.foldl (fun a t => retire t c a) s).encFilter = s.encFilter := 
  foldl_keeps State.encFilter _ (fun a t => retire_encFilter a t c) ts s
@[simp] theorem retireAll_advanceDue (ts : List Byte) (c : OutcomeCode) (s : State) : (ts.foldl (fun a t => retire t c a) s).advanceDue = s.advanceDue := 
  foldl_keeps State.advanceDue _ (fun a t => retire_advanceDue a t c) ts s
@[simp] theorem retireAll_latchMid (ts : List Byte) (c : OutcomeCode) (s : State) : (ts.foldl (fun a t => retire t c a) s).latchMid = s.latchMid := 
  foldl_keeps State.latchMid _ (fun a t => retire_latchMid a t c) ts s
@[simp] theorem retireAll_latchHigh (ts : List Byte) (c : OutcomeCode) (s : State) : (ts.foldl (fun a t => retire t c a) s).latchHigh = s.latchHigh := 
  foldl_keeps State.latchHigh _ (fun a t => retire_latchHigh a t c) ts s
@[simp] theorem retireAll_run (ts : List Byte) (c : OutcomeCode) (s : State) : (ts.foldl (fun a t => retire t c a) s).run = s.run := 
  foldl_keeps State.run _ (fun a t => retire_run a t c) ts s
@[simp] theorem retireAll_haltCause (ts : List Byte) (c : OutcomeCode) (s : State) : (ts.foldl (fun a t => retire t c a) s).haltCause = s.haltCause := 
  foldl_keeps State.haltCause _ (fun a t => retire_haltCause a t c) ts s
@[simp] theorem retireAll_xstopFilter (ts : List Byte) (c : OutcomeCode) (s : State) : (ts.foldl (fun a t => retire t c a) s).xstopFilter = s.xstopFilter := 
  foldl_keeps State.xstopFilter _ (fun a t => retire_xstopFilter a t c) ts s
@[simp] theorem retireAll_xstopEdge (ts : List Byte) (c : OutcomeCode) (s : State) : (ts.foldl (fun a t => retire t c a) s).xstopEdge = s.xstopEdge := 
  foldl_keeps State.xstopEdge _ (fun a t => retire_xstopEdge a t c) ts s
@[simp] theorem retireAll_lanes (ts : List Byte) (c : OutcomeCode) (s : State) : (ts.foldl (fun a t => retire t c a) s).lanes = s.lanes := 
  foldl_keeps State.lanes _ (fun a t => retire_lanes a t c) ts s
@[simp] theorem retireAll_tc (ts : List Byte) (c : OutcomeCode) (s : State) : (ts.foldl (fun a t => retire t c a) s).tc = s.tc := 
  foldl_keeps State.tc _ (fun a t => retire_tc a t c) ts s
@[simp] theorem retireAll_freeThreshold (ts : List Byte) (c : OutcomeCode) (s : State) : (ts.foldl (fun a t => retire t c a) s).freeThreshold = s.freeThreshold := 
  foldl_keeps State.freeThreshold _ (fun a t => retire_freeThreshold a t c) ts s
@[simp] theorem retireAll_profiles (ts : List Byte) (c : OutcomeCode) (s : State) : (ts.foldl (fun a t => retire t c a) s).profiles = s.profiles := 
  foldl_keeps State.profiles _ (fun a t => retire_profiles a t c) ts s
@[simp] theorem retireAll_laneAlert (ts : List Byte) (c : OutcomeCode) (s : State) : (ts.foldl (fun a t => retire t c a) s).laneAlert = s.laneAlert := 
  foldl_keeps State.laneAlert _ (fun a t => retire_laneAlert a t c) ts s
@[simp] theorem retireAll_haltEntered (ts : List Byte) (c : OutcomeCode) (s : State) : (ts.foldl (fun a t => retire t c a) s).haltEntered = s.haltEntered := 
  foldl_keeps State.haltEntered _ (fun a t => retire_haltEntered a t c) ts s
@[simp] theorem retireAll_drainDone (ts : List Byte) (c : OutcomeCode) (s : State) : (ts.foldl (fun a t => retire t c a) s).drainDone = s.drainDone := 
  foldl_keeps State.drainDone _ (fun a t => retire_drainDone a t c) ts s
@[simp] theorem retireAll_freeLow (ts : List Byte) (c : OutcomeCode) (s : State) : (ts.foldl (fun a t => retire t c a) s).freeLow = s.freeLow := 
  foldl_keeps State.freeLow _ (fun a t => retire_freeLow a t c) ts s
@[simp] theorem retireAll_enables (ts : List Byte) (c : OutcomeCode) (s : State) : (ts.foldl (fun a t => retire t c a) s).enables = s.enables := 
  foldl_keeps State.enables _ (fun a t => retire_enables a t c) ts s
@[simp] theorem retireAll_cmd (ts : List Byte) (c : OutcomeCode) (s : State) : (ts.foldl (fun a t => retire t c a) s).cmd = s.cmd := 
  foldl_keeps State.cmd _ (fun a t => retire_cmd a t c) ts s
@[simp] theorem retireAll_result (ts : List Byte) (c : OutcomeCode) (s : State) : (ts.foldl (fun a t => retire t c a) s).result = s.result := 
  foldl_keeps State.result _ (fun a t => retire_result a t c) ts s
@[simp] theorem retireAll_params (ts : List Byte) (c : OutcomeCode) (s : State) : (ts.foldl (fun a t => retire t c a) s).params = s.params := 
  foldl_keeps State.params _ (fun a t => retire_params a t c) ts s
@[simp] theorem retireAll_reply (ts : List Byte) (c : OutcomeCode) (s : State) : (ts.foldl (fun a t => retire t c a) s).reply = s.reply := 
  foldl_keeps State.reply _ (fun a t => retire_reply a t c) ts s
@[simp] theorem retireAll_readData (ts : List Byte) (c : OutcomeCode) (s : State) : (ts.foldl (fun a t => retire t c a) s).readData = s.readData := 
  foldl_keeps State.readData _ (fun a t => retire_readData a t c) ts s

/-! ### What haltEntry leaves unchanged -/

@[simp] theorem haltEntry_pending (c : HaltCause) (s : State) : (haltEntry c s).pending = s.pending := by
  simp [haltEntry]
@[simp] theorem haltEntry_inReset (c : HaltCause) (s : State) : (haltEntry c s).inReset = s.inReset := by
  simp [haltEntry]
@[simp] theorem haltEntry_timebase (c : HaltCause) (s : State) : (haltEntry c s).timebase = s.timebase := by
  simp [haltEntry]
@[simp] theorem haltEntry_divCount (c : HaltCause) (s : State) : (haltEntry c s).divCount = s.divCount := by
  simp [haltEntry]
@[simp] theorem haltEntry_p (c : HaltCause) (s : State) : (haltEntry c s).p = s.p := by
  simp [haltEntry]
@[simp] theorem haltEntry_k (c : HaltCause) (s : State) : (haltEntry c s).k = s.k := by
  simp [haltEntry]
@[simp] theorem haltEntry_encFilter (c : HaltCause) (s : State) : (haltEntry c s).encFilter = s.encFilter := by
  simp [haltEntry]
@[simp] theorem haltEntry_latchMid (c : HaltCause) (s : State) : (haltEntry c s).latchMid = s.latchMid := by
  simp [haltEntry]
@[simp] theorem haltEntry_latchHigh (c : HaltCause) (s : State) : (haltEntry c s).latchHigh = s.latchHigh := by
  simp [haltEntry]
@[simp] theorem haltEntry_xstopFilter (c : HaltCause) (s : State) : (haltEntry c s).xstopFilter = s.xstopFilter := by
  simp [haltEntry]
@[simp] theorem haltEntry_xstopEdge (c : HaltCause) (s : State) : (haltEntry c s).xstopEdge = s.xstopEdge := by
  simp [haltEntry]
@[simp] theorem haltEntry_tc (c : HaltCause) (s : State) : (haltEntry c s).tc = s.tc := by
  simp [haltEntry]
@[simp] theorem haltEntry_freeThreshold (c : HaltCause) (s : State) : (haltEntry c s).freeThreshold = s.freeThreshold := by
  simp [haltEntry]
@[simp] theorem haltEntry_profiles (c : HaltCause) (s : State) : (haltEntry c s).profiles = s.profiles := by
  simp [haltEntry]
@[simp] theorem haltEntry_laneAlert (c : HaltCause) (s : State) : (haltEntry c s).laneAlert = s.laneAlert := by
  simp [haltEntry]
@[simp] theorem haltEntry_drainDone (c : HaltCause) (s : State) : (haltEntry c s).drainDone = s.drainDone := by
  simp [haltEntry]
@[simp] theorem haltEntry_freeLow (c : HaltCause) (s : State) : (haltEntry c s).freeLow = s.freeLow := by
  simp [haltEntry]
@[simp] theorem haltEntry_enables (c : HaltCause) (s : State) : (haltEntry c s).enables = s.enables := by
  simp [haltEntry]
@[simp] theorem haltEntry_cmd (c : HaltCause) (s : State) : (haltEntry c s).cmd = s.cmd := by
  simp [haltEntry]
@[simp] theorem haltEntry_result (c : HaltCause) (s : State) : (haltEntry c s).result = s.result := by
  simp [haltEntry]
@[simp] theorem haltEntry_params (c : HaltCause) (s : State) : (haltEntry c s).params = s.params := by
  simp [haltEntry]
@[simp] theorem haltEntry_reply (c : HaltCause) (s : State) : (haltEntry c s).reply = s.reply := by
  simp [haltEntry]
@[simp] theorem haltEntry_readData (c : HaltCause) (s : State) : (haltEntry c s).readData = s.readData := by
  simp [haltEntry]

@[simp] theorem haltEntry_run (c : HaltCause) (s : State) : (haltEntry c s).run = .halt := by simp [haltEntry]

@[simp] theorem haltEntry_haltCause (c : HaltCause) (s : State) : (haltEntry c s).haltCause = c := by simp [haltEntry]

@[simp] theorem haltEntry_haltEntered (c : HaltCause) (s : State) : (haltEntry c s).haltEntered = true := by
  simp [haltEntry]

@[simp] theorem haltEntry_advanceDue (c : HaltCause) (s : State) : (haltEntry c s).advanceDue = false := by
  simp [haltEntry]

@[simp] theorem haltEntry_lanes (c : HaltCause) (s : State) : (haltEntry c s).lanes = s.lanes.map Lane.toOff := by
  simp [haltEntry]

end Sys2Proof.Machine
end

