-- ==== Sys2Proof/WellFormed.lean ====
section
/-! DEFINITION. Which commands say what their row says. Every operand but two is right by its type (a lane number is a
`Fin 4`, a parameter number a `Fin 12`); the two checks are on BAD_COMMAND and on RESET. -/

namespace Sys2Proof

/-- BAD_COMMAND stands for a code that Table 9.2 does not name (R153), and RESET for four consecutive low samples or more
(R162). Every other row is well formed as it stands. -/
def Instr.wellFormed : Instr → Bool
  | .badCommand code => (HostCommand.ofCode code).isNone
  | .reset lowSamples => decide (Config.resetSamples ≤ lowSamples)
  | .start => true
  | .drain => true
  | .drainCompletion => true
  | .halt => true
  | .resume => true
  | .clearLine => true
  | .setTimebase => true
  | .setPosition => true
  | .setLane => true
  | .setStation => true
  | .setProfile => true
  | .setFreeThreshold => true
  | .readLane => true
  | .readStation => true
  | .readProfile => true
  | .readItem => true
  | .readTimebase => true
  | .nextDetection => true
  | .nextOutcome => true
  | .backlogPromotion => true
  | .verdict => true
  | .pass => true
  | .abort => true
  | .paramWrite _ _ => true
  | .registerWrite _ _ _ => true
  | .pos0Read => true
  | .irqFlagsWrite _ => true
  | .irqEnableWrite _ => true
  | .tick _ _ => true
  | .encoderEdge _ => true
  | .rateCountdownExpiry => true
  | .xstopActive => true
  | .xstopInactive => true
  | .leadEdge _ => true
  | .trailingEdge _ => true
  | .jam _ => true
  | .deadline _ => true
  | .arrival _ => true
  | .offPositionReached _ => true
  | .timePulseEnd _ => true
  | .maxOnCut _ => true
  | .recoveryEnd _ => true
  | .guardMarkReached _ => true
  | .resetRelease => true

end Sys2Proof
end

