-- ==== Sys2Proof/Laws/PerInstr.lean ====
section
/-! SUPPORT. What holds of every row of the table as syntax: the code of a mailbox command leads back to the command, so
that no row that BAD_COMMAND may name is one of them. -/

namespace Sys2Proof.Laws.HostCode

open Sys2Proof

/-- A row that is the CMD write of a command has a code of Table 9.2 that names that command, and the same byte is no
well-formed BAD_COMMAND. -/
def Statement (i : Instr) : Prop :=
  ∀ c, i.hostCommand = some c → HostCommand.ofCode c.code = some c ∧ (Instr.badCommand c.code).wellFormed = false

theorem ofCode_code (c : HostCommand) : HostCommand.ofCode c.code = some c := by cases c <;> rfl

theorem statement_of_code (i : Instr) : Statement i := fun c _ => ⟨ofCode_code c, by simp [Instr.wellFormed, ofCode_code]⟩

theorem start : Statement (.start) := statement_of_code _

theorem drain : Statement (.drain) := statement_of_code _

theorem drainCompletion : Statement (.drainCompletion) := statement_of_code _

theorem halt : Statement (.halt) := statement_of_code _

theorem resume : Statement (.resume) := statement_of_code _

theorem clearLine : Statement (.clearLine) := statement_of_code _

theorem setTimebase : Statement (.setTimebase) := statement_of_code _

theorem setPosition : Statement (.setPosition) := statement_of_code _

theorem setLane : Statement (.setLane) := statement_of_code _

theorem setStation : Statement (.setStation) := statement_of_code _

theorem setProfile : Statement (.setProfile) := statement_of_code _

theorem setFreeThreshold : Statement (.setFreeThreshold) := statement_of_code _

theorem readLane : Statement (.readLane) := statement_of_code _

theorem readStation : Statement (.readStation) := statement_of_code _

theorem readProfile : Statement (.readProfile) := statement_of_code _

theorem readItem : Statement (.readItem) := statement_of_code _

theorem readTimebase : Statement (.readTimebase) := statement_of_code _

theorem nextDetection : Statement (.nextDetection) := statement_of_code _

theorem nextOutcome : Statement (.nextOutcome) := statement_of_code _

theorem backlogPromotion : Statement (.backlogPromotion) := statement_of_code _

theorem verdict : Statement (.verdict) := statement_of_code _

theorem pass : Statement (.pass) := statement_of_code _

theorem abort : Statement (.abort) := statement_of_code _

theorem badCommand (code : Byte) : Statement (.badCommand code) := statement_of_code _

theorem paramWrite (n : Fin 12) (data : Byte) : Statement (.paramWrite n data) := statement_of_code _

theorem registerWrite (addr : BitVec 6) (data : Byte) (cycle : BusCycle) : Statement (.registerWrite addr data cycle) := statement_of_code _

theorem pos0Read : Statement (.pos0Read) := statement_of_code _

theorem irqFlagsWrite (data : Byte) : Statement (.irqFlagsWrite data) := statement_of_code _

theorem irqEnableWrite (data : Byte) : Statement (.irqEnableWrite data) := statement_of_code _

theorem reset (lowSamples : Nat) : Statement (.reset lowSamples) := statement_of_code _

theorem tick (samples : PinSamples) (late : BitVec 8) : Statement (.tick samples late) := statement_of_code _

theorem encoderEdge (dir : EdgeDir) : Statement (.encoderEdge dir) := statement_of_code _

theorem rateCountdownExpiry : Statement (.rateCountdownExpiry) := statement_of_code _

theorem xstopActive : Statement (.xstopActive) := statement_of_code _

theorem xstopInactive : Statement (.xstopInactive) := statement_of_code _

theorem leadEdge (lane : LaneNo) : Statement (.leadEdge lane) := statement_of_code _

theorem trailingEdge (lane : LaneNo) : Statement (.trailingEdge lane) := statement_of_code _

theorem jam (lane : LaneNo) : Statement (.jam lane) := statement_of_code _

theorem deadline (tag : Byte) : Statement (.deadline tag) := statement_of_code _

theorem arrival (station : StationNo) : Statement (.arrival station) := statement_of_code _

theorem offPositionReached (station : StationNo) : Statement (.offPositionReached station) := statement_of_code _

theorem timePulseEnd (station : StationNo) : Statement (.timePulseEnd station) := statement_of_code _

theorem maxOnCut (station : StationNo) : Statement (.maxOnCut station) := statement_of_code _

theorem recoveryEnd (station : StationNo) : Statement (.recoveryEnd station) := statement_of_code _

theorem guardMarkReached (station : StationNo) : Statement (.guardMarkReached station) := statement_of_code _

theorem resetRelease : Statement (.resetRelease) := statement_of_code _

end Sys2Proof.Laws.HostCode
end

