-- ==== Sys2Proof/Laws/Sound.lean ====
section
/-! SUPPORT. A check of `State.Sound` and `State.spacingLaw` that Lean evaluates on a concrete state: the same laws with
every quantifier bounded by a list of the state. -/

namespace Sys2Proof.Machine

/-- The pulse of an engine, as a list of at most one. -/
def Engine.pulses : Engine → List Pulse
  | .on q => [q]
  | .disabled => []
  | .offReady => []
  | .recovery _ => []

theorem Engine.mem_pulses {e : Engine} {q : Pulse} : q ∈ e.pulses ↔ e = .on q := by
  cases e <;> simp [Engine.pulses, eq_comm]

def State.queueCheck (s : State) : Bool :=
  decide (s.queue.length ≤ 16 ∧ (s.backlog ≠ [] → s.queue.length = 16) ∧ (s.backlog ≠ [] → s.backlogFlag = true))

def State.tableCheck (s : State) : Bool :=
  decide (s.items.length ≤ 32 ∧ (s.items.map ItemRecord.tag).Nodup ∧ s.backlog.Nodup ∧
    (∀ t ∈ s.backlog, ∃ r ∈ s.items, r.tag = t ∧ r.state = .retired) ∧
    (∀ r ∈ s.items, r.state = .retired → r.tag ∈ s.backlog) ∧
    s.announce.Nodup ∧ (∀ t ∈ s.announce, ∃ r ∈ s.items, r.tag = t ∧ r.state = .pending))

def State.listCheck (s : State) : Bool :=
  decide ((∀ n, (s.station n).list.Nodup) ∧
    (∀ n, ∀ t ∈ (s.station n).list,
      ∃ r ∈ s.items, r.tag = t ∧ r.state = .committed ∧ r.verdict.map Verdict.station = some n) ∧
    (∀ r ∈ s.items, r.state = .committed → ∀ n, r.verdict.map Verdict.station = some n → r.tag ∈ (s.station n).list))

def State.engineCheck (s : State) : Bool :=
  decide ((∀ n, ∀ q ∈ (s.station n).engine.pulses,
      ∃ r ∈ s.items, r.tag = q.tag ∧ r.state = .firing ∧ r.verdict.map Verdict.station = some n ∧
        r.firing.map Firing.onTicks = some q.onTicks) ∧
    (∀ r ∈ s.items, r.state = .firing →
      ∃ n, r.verdict.map Verdict.station = some n ∧ ∃ q ∈ (s.station n).engine.pulses, q.tag = r.tag) ∧
    (∀ n, ((s.station n).record.enable = false ↔ (s.station n).engine = .disabled) ∧
      ((s.station n).engine = .disabled → (s.station n).list = [])))

def State.laneCheck (s : State) : Bool :=
  decide ((∀ l, (s.lane l).state = .measuring ↔ (s.lane l).measurement ≠ none) ∧
    (∀ l, ∀ m ∈ (s.lane l).measurement.toList,
      ∃ r ∈ s.items, r.tag = m.tag ∧ r.state = .measuring ∧ r.lane = l ∧
        m.jam = jamPosition r.lead r.snapshot.maxLength) ∧
    (∀ r ∈ s.items, r.state = .measuring →
      (s.lane r.lane).measurement.map Measurement.tag = some r.tag ∧
        (s.p - r.lead).toNat ≤ r.snapshot.maxLength.toNat + 1))

/-- The presence of the optional fields, as a Bool. -/
def ItemRecord.presenceCheck (r : ItemRecord) : Bool :=
  match r.state with
  | .measuring => r.length.isNone && r.verdict.isNone && r.order.isNone && r.firing.isNone && r.outcome.isNone
  | .pending => r.length.isSome && r.verdict.isNone && r.order.isNone && r.firing.isNone && r.outcome.isNone
  | .committed => r.length.isSome && r.verdict.isSome && r.order.isSome && r.firing.isNone && r.outcome.isNone
  | .firing => r.length.isSome && r.verdict.isSome && r.order.isSome && r.firing.isSome && r.outcome.isNone
  | .retired => r.outcome.isSome

def State.restCheck (s : State) : Bool :=
  decide ((s.run = .idle ∨ s.run = .halt →
      s.hasLive = false ∧ (∀ n, (s.station n).engine.isOn = false) ∧ (∀ l, (s.lane l).state = .off) ∧
        s.advanceDue = false) ∧
    s.freeThreshold.toNat ≤ 31 ∧
    (1 ≤ s.timebase.divider.toNat ∧ s.timebase.divider.toNat ≤ 4096) ∧
    (1 ≤ s.timebase.encDepth.toNat ∧ s.timebase.encDepth.toNat ≤ 15) ∧ 1 ≤ s.timebase.rate.toNat ∧ 1 ≤ s.k.toNat) && s.items.all ItemRecord.presenceCheck

/-- Every check together. -/
def State.soundCheck (s : State) : Bool :=
  s.queueCheck && s.tableCheck && s.listCheck && s.engineCheck && s.laneCheck && s.restCheck

theorem ItemRecord.presence_of_check {r : ItemRecord} (h : r.presenceCheck = true) : r.presence := by
  unfold ItemRecord.presenceCheck at h
  unfold ItemRecord.presence
  split at h <;> simp_all [Option.isSome_iff_ne_none]

/-- A state that passes the check is sound. -/
theorem State.sound_of_check {s : State} (h : s.soundCheck = true) : s.Sound := by
  simp only [State.soundCheck, Bool.and_eq_true] at h
  obtain ⟨⟨⟨⟨⟨hq, ht⟩, hl⟩, he⟩, hn⟩, hr⟩ := h
  simp only [State.queueCheck, decide_eq_true_eq] at hq
  simp only [State.tableCheck, decide_eq_true_eq] at ht
  simp only [State.listCheck, decide_eq_true_eq] at hl
  simp only [State.engineCheck, decide_eq_true_eq] at he
  simp only [State.laneCheck, decide_eq_true_eq] at hn
  simp only [State.restCheck, Bool.and_eq_true, decide_eq_true_eq, List.all_eq_true] at hr
  obtain ⟨t1, t2, t3, t4, t5, t6, t7⟩ := ht
  refine ⟨⟨hq.1, hq.2.1⟩, hq.2.2, ⟨t1, t2⟩, ⟨t3, ?_⟩, ⟨t6, t7⟩, ?_, ⟨?_, ?_, he.2.2⟩, ⟨hn.1, ?_, hn.2.2⟩, ?_, hr.1.1, hr.1.2.1, hr.1.2.2⟩
  · exact fun t => ⟨t4 t, fun ⟨r, hm, hrt, hs⟩ => hrt ▸ t5 r hm hs⟩
  · exact fun n => ⟨hl.1 n, fun t => ⟨hl.2.1 n t, fun ⟨r, hm, hrt, hs, hv⟩ => hrt ▸ hl.2.2 r hm hs n hv⟩⟩
  · exact fun n q hq' => he.1 n q (Engine.mem_pulses.2 hq')
  · intro r hm hs
    obtain ⟨n, hv, q, hq', hqt⟩ := he.2.1 r hm hs
    exact ⟨n, q, hv, Engine.mem_pulses.1 hq', hqt⟩
  · exact fun l m hm => hn.2.1 l m (by simp [hm])
  · exact fun r hm => ItemRecord.presence_of_check (hr.2 r hm)

def State.spacingCheck (s : State) : Bool :=
  decide (∀ n, 1 ≤ (s.station n).record.guard.toNat ∧
    (∀ d ∈ s.listedDistances n, d ≤ 8388607) ∧
    (s.listedDistances n).Pairwise (fun a b => a + (s.station n).record.guard.toNat ≤ b) ∧
    (s.station n).guardMark.all (fun m => (s.listedDistances n).all (fun d => decide (aheadDist s.p m ≤ d))))

/-- A state that passes the check has its station lists spaced. -/
theorem State.spacing_of_check {s : State} (h : s.spacingCheck = true) : s.spacingLaw := by
  simp only [State.spacingCheck, decide_eq_true_eq] at h
  intro n
  obtain ⟨h1, h2, h3, h4⟩ := h n
  simp only [Option.all_eq_true, List.all_eq_true, decide_eq_true_eq] at h4
  exact ⟨h1, h2, h3, fun m hm => h4 m hm⟩

end Sys2Proof.Machine
end

