-- ==== Sys2Proof/Laws/Units.lean ====
section
/-! SUPPORT. What the units' operations can do: arbitration and placement, the engines, the lanes, the deadline, the
promotion and the settling of due events; each with the fields it leaves unchanged. -/

namespace Sys2Proof.Machine

/-! ### Arbitration and placement (R112 to R114) -/

/-- A won arbitration: no conflict with the guard mark, every conflicting listed order weaker, and the bumped orders are those
conflicts in age order. -/
theorem arbitrate_won {s : State} {t : Byte} {v : Verdict} {on : Pos} {b : List Byte} :
    s.arbitrate t v on = some b ↔
      s.engineConflict v.station on = false ∧
        (s.items.filter (s.conflictsAt v.station on)).all (s.stronger t v.priority) = true ∧
        b = (s.items.filter (s.conflictsAt v.station on)).map ItemRecord.tag := by
  unfold State.arbitrate
  cases h : s.engineConflict v.station on
  · cases h2 : (s.items.filter (s.conflictsAt v.station on)).all (s.stronger t v.priority)
    · simp [h2]
    · simp [h2, eq_comm]
  · simp

/-- A refused arbitration: the guard mark conflicts, or some conflicting listed order is not weaker. -/
theorem arbitrate_lost {s : State} {t : Byte} {v : Verdict} {on : Pos} :
    s.arbitrate t v on = none ↔
      s.engineConflict v.station on = true ∨
        (s.items.filter (s.conflictsAt v.station on)).all (s.stronger t v.priority) = false := by
  unfold State.arbitrate
  cases h : s.engineConflict v.station on
  · cases h2 : (s.items.filter (s.conflictsAt v.station on)).all (s.stronger t v.priority) <;> simp [h2]
  · simp

/-! ### What commit leaves unchanged -/

@[simp] theorem commit_pending (t : Byte) (v : Verdict) (x : Order) (s : State) : (commit t v x s).pending = s.pending := rfl
@[simp] theorem commit_inReset (t : Byte) (v : Verdict) (x : Order) (s : State) : (commit t v x s).inReset = s.inReset := rfl
@[simp] theorem commit_timebase (t : Byte) (v : Verdict) (x : Order) (s : State) : (commit t v x s).timebase = s.timebase := rfl
@[simp] theorem commit_divCount (t : Byte) (v : Verdict) (x : Order) (s : State) : (commit t v x s).divCount = s.divCount := rfl
@[simp] theorem commit_p (t : Byte) (v : Verdict) (x : Order) (s : State) : (commit t v x s).p = s.p := rfl
@[simp] theorem commit_k (t : Byte) (v : Verdict) (x : Order) (s : State) : (commit t v x s).k = s.k := rfl
@[simp] theorem commit_encFilter (t : Byte) (v : Verdict) (x : Order) (s : State) : (commit t v x s).encFilter = s.encFilter := rfl
@[simp] theorem commit_advanceDue (t : Byte) (v : Verdict) (x : Order) (s : State) : (commit t v x s).advanceDue = s.advanceDue := rfl
@[simp] theorem commit_latchMid (t : Byte) (v : Verdict) (x : Order) (s : State) : (commit t v x s).latchMid = s.latchMid := rfl
@[simp] theorem commit_latchHigh (t : Byte) (v : Verdict) (x : Order) (s : State) : (commit t v x s).latchHigh = s.latchHigh := rfl
@[simp] theorem commit_run (t : Byte) (v : Verdict) (x : Order) (s : State) : (commit t v x s).run = s.run := rfl
@[simp] theorem commit_haltCause (t : Byte) (v : Verdict) (x : Order) (s : State) : (commit t v x s).haltCause = s.haltCause := rfl
@[simp] theorem commit_xstopFilter (t : Byte) (v : Verdict) (x : Order) (s : State) : (commit t v x s).xstopFilter = s.xstopFilter := rfl
@[simp] theorem commit_xstopEdge (t : Byte) (v : Verdict) (x : Order) (s : State) : (commit t v x s).xstopEdge = s.xstopEdge := rfl
@[simp] theorem commit_lanes (t : Byte) (v : Verdict) (x : Order) (s : State) : (commit t v x s).lanes = s.lanes := rfl
@[simp] theorem commit_tc (t : Byte) (v : Verdict) (x : Order) (s : State) : (commit t v x s).tc = s.tc := rfl
@[simp] theorem commit_freeThreshold (t : Byte) (v : Verdict) (x : Order) (s : State) : (commit t v x s).freeThreshold = s.freeThreshold := rfl
@[simp] theorem commit_profiles (t : Byte) (v : Verdict) (x : Order) (s : State) : (commit t v x s).profiles = s.profiles := rfl
@[simp] theorem commit_queue (t : Byte) (v : Verdict) (x : Order) (s : State) : (commit t v x s).queue = s.queue := rfl
@[simp] theorem commit_backlog (t : Byte) (v : Verdict) (x : Order) (s : State) : (commit t v x s).backlog = s.backlog := rfl
@[simp] theorem commit_laneAlert (t : Byte) (v : Verdict) (x : Order) (s : State) : (commit t v x s).laneAlert = s.laneAlert := rfl
@[simp] theorem commit_haltEntered (t : Byte) (v : Verdict) (x : Order) (s : State) : (commit t v x s).haltEntered = s.haltEntered := rfl
@[simp] theorem commit_drainDone (t : Byte) (v : Verdict) (x : Order) (s : State) : (commit t v x s).drainDone = s.drainDone := rfl
@[simp] theorem commit_freeLow (t : Byte) (v : Verdict) (x : Order) (s : State) : (commit t v x s).freeLow = s.freeLow := rfl
@[simp] theorem commit_backlogFlag (t : Byte) (v : Verdict) (x : Order) (s : State) : (commit t v x s).backlogFlag = s.backlogFlag := rfl
@[simp] theorem commit_enables (t : Byte) (v : Verdict) (x : Order) (s : State) : (commit t v x s).enables = s.enables := rfl
@[simp] theorem commit_cmd (t : Byte) (v : Verdict) (x : Order) (s : State) : (commit t v x s).cmd = s.cmd := rfl
@[simp] theorem commit_result (t : Byte) (v : Verdict) (x : Order) (s : State) : (commit t v x s).result = s.result := rfl
@[simp] theorem commit_params (t : Byte) (v : Verdict) (x : Order) (s : State) : (commit t v x s).params = s.params := rfl
@[simp] theorem commit_reply (t : Byte) (v : Verdict) (x : Order) (s : State) : (commit t v x s).reply = s.reply := rfl
@[simp] theorem commit_readData (t : Byte) (v : Verdict) (x : Order) (s : State) : (commit t v x s).readData = s.readData := rfl

/-! ### What bumpAll leaves unchanged -/

@[simp] theorem bumpAll_pending (ts : List Byte) (s : State) : (bumpAll ts s).pending = s.pending := 
  foldl_keeps State.pending _ (fun a t => retireAndCheck_pending a t .bumped) ts s
@[simp] theorem bumpAll_inReset (ts : List Byte) (s : State) : (bumpAll ts s).inReset = s.inReset := 
  foldl_keeps State.inReset _ (fun a t => retireAndCheck_inReset a t .bumped) ts s
@[simp] theorem bumpAll_timebase (ts : List Byte) (s : State) : (bumpAll ts s).timebase = s.timebase := 
  foldl_keeps State.timebase _ (fun a t => retireAndCheck_timebase a t .bumped) ts s
@[simp] theorem bumpAll_divCount (ts : List Byte) (s : State) : (bumpAll ts s).divCount = s.divCount := 
  foldl_keeps State.divCount _ (fun a t => retireAndCheck_divCount a t .bumped) ts s
@[simp] theorem bumpAll_p (ts : List Byte) (s : State) : (bumpAll ts s).p = s.p := 
  foldl_keeps State.p _ (fun a t => retireAndCheck_p a t .bumped) ts s
@[simp] theorem bumpAll_k (ts : List Byte) (s : State) : (bumpAll ts s).k = s.k := 
  foldl_keeps State.k _ (fun a t => retireAndCheck_k a t .bumped) ts s
@[simp] theorem bumpAll_encFilter (ts : List Byte) (s : State) : (bumpAll ts s).encFilter = s.encFilter := 
  foldl_keeps State.encFilter _ (fun a t => retireAndCheck_encFilter a t .bumped) ts s
@[simp] theorem bumpAll_latchMid (ts : List Byte) (s : State) : (bumpAll ts s).latchMid = s.latchMid := 
  foldl_keeps State.latchMid _ (fun a t => retireAndCheck_latchMid a t .bumped) ts s
@[simp] theorem bumpAll_latchHigh (ts : List Byte) (s : State) : (bumpAll ts s).latchHigh = s.latchHigh := 
  foldl_keeps State.latchHigh _ (fun a t => retireAndCheck_latchHigh a t .bumped) ts s
@[simp] theorem bumpAll_haltCause (ts : List Byte) (s : State) : (bumpAll ts s).haltCause = s.haltCause := 
  foldl_keeps State.haltCause _ (fun a t => retireAndCheck_haltCause a t .bumped) ts s
@[simp] theorem bumpAll_xstopFilter (ts : List Byte) (s : State) : (bumpAll ts s).xstopFilter = s.xstopFilter := 
  foldl_keeps State.xstopFilter _ (fun a t => retireAndCheck_xstopFilter a t .bumped) ts s
@[simp] theorem bumpAll_xstopEdge (ts : List Byte) (s : State) : (bumpAll ts s).xstopEdge = s.xstopEdge := 
  foldl_keeps State.xstopEdge _ (fun a t => retireAndCheck_xstopEdge a t .bumped) ts s
@[simp] theorem bumpAll_tc (ts : List Byte) (s : State) : (bumpAll ts s).tc = s.tc := 
  foldl_keeps State.tc _ (fun a t => retireAndCheck_tc a t .bumped) ts s
@[simp] theorem bumpAll_freeThreshold (ts : List Byte) (s : State) : (bumpAll ts s).freeThreshold = s.freeThreshold := 
  foldl_keeps State.freeThreshold _ (fun a t => retireAndCheck_freeThreshold a t .bumped) ts s
@[simp] theorem bumpAll_profiles (ts : List Byte) (s : State) : (bumpAll ts s).profiles = s.profiles := 
  foldl_keeps State.profiles _ (fun a t => retireAndCheck_profiles a t .bumped) ts s
@[simp] theorem bumpAll_laneAlert (ts : List Byte) (s : State) : (bumpAll ts s).laneAlert = s.laneAlert := 
  foldl_keeps State.laneAlert _ (fun a t => retireAndCheck_laneAlert a t .bumped) ts s
@[simp] theorem bumpAll_haltEntered (ts : List Byte) (s : State) : (bumpAll ts s).haltEntered = s.haltEntered := 
  foldl_keeps State.haltEntered _ (fun a t => retireAndCheck_haltEntered a t .bumped) ts s
@[simp] theorem bumpAll_freeLow (ts : List Byte) (s : State) : (bumpAll ts s).freeLow = s.freeLow := 
  foldl_keeps State.freeLow _ (fun a t => retireAndCheck_freeLow a t .bumped) ts s
@[simp] theorem bumpAll_enables (ts : List Byte) (s : State) : (bumpAll ts s).enables = s.enables := 
  foldl_keeps State.enables _ (fun a t => retireAndCheck_enables a t .bumped) ts s
@[simp] theorem bumpAll_cmd (ts : List Byte) (s : State) : (bumpAll ts s).cmd = s.cmd := 
  foldl_keeps State.cmd _ (fun a t => retireAndCheck_cmd a t .bumped) ts s
@[simp] theorem bumpAll_result (ts : List Byte) (s : State) : (bumpAll ts s).result = s.result := 
  foldl_keeps State.result _ (fun a t => retireAndCheck_result a t .bumped) ts s
@[simp] theorem bumpAll_params (ts : List Byte) (s : State) : (bumpAll ts s).params = s.params := 
  foldl_keeps State.params _ (fun a t => retireAndCheck_params a t .bumped) ts s
@[simp] theorem bumpAll_reply (ts : List Byte) (s : State) : (bumpAll ts s).reply = s.reply := 
  foldl_keeps State.reply _ (fun a t => retireAndCheck_reply a t .bumped) ts s
@[simp] theorem bumpAll_readData (ts : List Byte) (s : State) : (bumpAll ts s).readData = s.readData := 
  foldl_keeps State.readData _ (fun a t => retireAndCheck_readData a t .bumped) ts s

/-! ### What place leaves unchanged -/

@[simp] theorem place_pending (t : Byte) (v : Verdict) (x : Order) (b : List Byte) (s : State) : (place t v x b s).pending = s.pending := by
  simp [place]
@[simp] theorem place_inReset (t : Byte) (v : Verdict) (x : Order) (b : List Byte) (s : State) : (place t v x b s).inReset = s.inReset := by
  simp [place]
@[simp] theorem place_timebase (t : Byte) (v : Verdict) (x : Order) (b : List Byte) (s : State) : (place t v x b s).timebase = s.timebase := by
  simp [place]
@[simp] theorem place_divCount (t : Byte) (v : Verdict) (x : Order) (b : List Byte) (s : State) : (place t v x b s).divCount = s.divCount := by
  simp [place]
@[simp] theorem place_p (t : Byte) (v : Verdict) (x : Order) (b : List Byte) (s : State) : (place t v x b s).p = s.p := by
  simp [place]
@[simp] theorem place_k (t : Byte) (v : Verdict) (x : Order) (b : List Byte) (s : State) : (place t v x b s).k = s.k := by
  simp [place]
@[simp] theorem place_encFilter (t : Byte) (v : Verdict) (x : Order) (b : List Byte) (s : State) : (place t v x b s).encFilter = s.encFilter := by
  simp [place]
@[simp] theorem place_latchMid (t : Byte) (v : Verdict) (x : Order) (b : List Byte) (s : State) : (place t v x b s).latchMid = s.latchMid := by
  simp [place]
@[simp] theorem place_latchHigh (t : Byte) (v : Verdict) (x : Order) (b : List Byte) (s : State) : (place t v x b s).latchHigh = s.latchHigh := by
  simp [place]
@[simp] theorem place_haltCause (t : Byte) (v : Verdict) (x : Order) (b : List Byte) (s : State) : (place t v x b s).haltCause = s.haltCause := by
  simp [place]
@[simp] theorem place_xstopFilter (t : Byte) (v : Verdict) (x : Order) (b : List Byte) (s : State) : (place t v x b s).xstopFilter = s.xstopFilter := by
  simp [place]
@[simp] theorem place_xstopEdge (t : Byte) (v : Verdict) (x : Order) (b : List Byte) (s : State) : (place t v x b s).xstopEdge = s.xstopEdge := by
  simp [place]
@[simp] theorem place_tc (t : Byte) (v : Verdict) (x : Order) (b : List Byte) (s : State) : (place t v x b s).tc = s.tc := by
  simp [place]
@[simp] theorem place_freeThreshold (t : Byte) (v : Verdict) (x : Order) (b : List Byte) (s : State) : (place t v x b s).freeThreshold = s.freeThreshold := by
  simp [place]
@[simp] theorem place_profiles (t : Byte) (v : Verdict) (x : Order) (b : List Byte) (s : State) : (place t v x b s).profiles = s.profiles := by
  simp [place]
@[simp] theorem place_laneAlert (t : Byte) (v : Verdict) (x : Order) (b : List Byte) (s : State) : (place t v x b s).laneAlert = s.laneAlert := by
  simp [place]
@[simp] theorem place_haltEntered (t : Byte) (v : Verdict) (x : Order) (b : List Byte) (s : State) : (place t v x b s).haltEntered = s.haltEntered := by
  simp [place]
@[simp] theorem place_freeLow (t : Byte) (v : Verdict) (x : Order) (b : List Byte) (s : State) : (place t v x b s).freeLow = s.freeLow := by
  simp [place]
@[simp] theorem place_enables (t : Byte) (v : Verdict) (x : Order) (b : List Byte) (s : State) : (place t v x b s).enables = s.enables := by
  simp [place]
@[simp] theorem place_cmd (t : Byte) (v : Verdict) (x : Order) (b : List Byte) (s : State) : (place t v x b s).cmd = s.cmd := by
  simp [place]
@[simp] theorem place_result (t : Byte) (v : Verdict) (x : Order) (b : List Byte) (s : State) : (place t v x b s).result = s.result := by
  simp [place]
@[simp] theorem place_params (t : Byte) (v : Verdict) (x : Order) (b : List Byte) (s : State) : (place t v x b s).params = s.params := by
  simp [place]
@[simp] theorem place_reply (t : Byte) (v : Verdict) (x : Order) (b : List Byte) (s : State) : (place t v x b s).reply = s.reply := by
  simp [place]
@[simp] theorem place_readData (t : Byte) (v : Verdict) (x : Order) (b : List Byte) (s : State) : (place t v x b s).readData = s.readData := by
  simp [place]

/-! ### What takeGuardMark leaves unchanged -/

@[simp] theorem takeGuardMark_pending (n : StationNo) (s : State) : (takeGuardMark n s).pending = s.pending := by
  unfold takeGuardMark; split <;> rfl
@[simp] theorem takeGuardMark_inReset (n : StationNo) (s : State) : (takeGuardMark n s).inReset = s.inReset := by
  unfold takeGuardMark; split <;> rfl
@[simp] theorem takeGuardMark_timebase (n : StationNo) (s : State) : (takeGuardMark n s).timebase = s.timebase := by
  unfold takeGuardMark; split <;> rfl
@[simp] theorem takeGuardMark_divCount (n : StationNo) (s : State) : (takeGuardMark n s).divCount = s.divCount := by
  unfold takeGuardMark; split <;> rfl
@[simp] theorem takeGuardMark_p (n : StationNo) (s : State) : (takeGuardMark n s).p = s.p := by
  unfold takeGuardMark; split <;> rfl
@[simp] theorem takeGuardMark_k (n : StationNo) (s : State) : (takeGuardMark n s).k = s.k := by
  unfold takeGuardMark; split <;> rfl
@[simp] theorem takeGuardMark_encFilter (n : StationNo) (s : State) : (takeGuardMark n s).encFilter = s.encFilter := by
  unfold takeGuardMark; split <;> rfl
@[simp] theorem takeGuardMark_advanceDue (n : StationNo) (s : State) : (takeGuardMark n s).advanceDue = s.advanceDue := by
  unfold takeGuardMark; split <;> rfl
@[simp] theorem takeGuardMark_latchMid (n : StationNo) (s : State) : (takeGuardMark n s).latchMid = s.latchMid := by
  unfold takeGuardMark; split <;> rfl
@[simp] theorem takeGuardMark_latchHigh (n : StationNo) (s : State) : (takeGuardMark n s).latchHigh = s.latchHigh := by
  unfold takeGuardMark; split <;> rfl
@[simp] theorem takeGuardMark_run (n : StationNo) (s : State) : (takeGuardMark n s).run = s.run := by
  unfold takeGuardMark; split <;> rfl
@[simp] theorem takeGuardMark_haltCause (n : StationNo) (s : State) : (takeGuardMark n s).haltCause = s.haltCause := by
  unfold takeGuardMark; split <;> rfl
@[simp] theorem takeGuardMark_xstopFilter (n : StationNo) (s : State) : (takeGuardMark n s).xstopFilter = s.xstopFilter := by
  unfold takeGuardMark; split <;> rfl
@[simp] theorem takeGuardMark_xstopEdge (n : StationNo) (s : State) : (takeGuardMark n s).xstopEdge = s.xstopEdge := by
  unfold takeGuardMark; split <;> rfl
@[simp] theorem takeGuardMark_lanes (n : StationNo) (s : State) : (takeGuardMark n s).lanes = s.lanes := by
  unfold takeGuardMark; split <;> rfl
@[simp] theorem takeGuardMark_items (n : StationNo) (s : State) : (takeGuardMark n s).items = s.items := by
  unfold takeGuardMark; split <;> rfl
@[simp] theorem takeGuardMark_announce (n : StationNo) (s : State) : (takeGuardMark n s).announce = s.announce := by
  unfold takeGuardMark; split <;> rfl
@[simp] theorem takeGuardMark_tc (n : StationNo) (s : State) : (takeGuardMark n s).tc = s.tc := by
  unfold takeGuardMark; split <;> rfl
@[simp] theorem takeGuardMark_freeThreshold (n : StationNo) (s : State) : (takeGuardMark n s).freeThreshold = s.freeThreshold := by
  unfold takeGuardMark; split <;> rfl
@[simp] theorem takeGuardMark_profiles (n : StationNo) (s : State) : (takeGuardMark n s).profiles = s.profiles := by
  unfold takeGuardMark; split <;> rfl
@[simp] theorem takeGuardMark_queue (n : StationNo) (s : State) : (takeGuardMark n s).queue = s.queue := by
  unfold takeGuardMark; split <;> rfl
@[simp] theorem takeGuardMark_backlog (n : StationNo) (s : State) : (takeGuardMark n s).backlog = s.backlog := by
  unfold takeGuardMark; split <;> rfl
@[simp] theorem takeGuardMark_laneAlert (n : StationNo) (s : State) : (takeGuardMark n s).laneAlert = s.laneAlert := by
  unfold takeGuardMark; split <;> rfl
@[simp] theorem takeGuardMark_haltEntered (n : StationNo) (s : State) : (takeGuardMark n s).haltEntered = s.haltEntered := by
  unfold takeGuardMark; split <;> rfl
@[simp] theorem takeGuardMark_drainDone (n : StationNo) (s : State) : (takeGuardMark n s).drainDone = s.drainDone := by
  unfold takeGuardMark; split <;> rfl
@[simp] theorem takeGuardMark_freeLow (n : StationNo) (s : State) : (takeGuardMark n s).freeLow = s.freeLow := by
  unfold takeGuardMark; split <;> rfl
@[simp] theorem takeGuardMark_backlogFlag (n : StationNo) (s : State) : (takeGuardMark n s).backlogFlag = s.backlogFlag := by
  unfold takeGuardMark; split <;> rfl
@[simp] theorem takeGuardMark_enables (n : StationNo) (s : State) : (takeGuardMark n s).enables = s.enables := by
  unfold takeGuardMark; split <;> rfl
@[simp] theorem takeGuardMark_cmd (n : StationNo) (s : State) : (takeGuardMark n s).cmd = s.cmd := by
  unfold takeGuardMark; split <;> rfl
@[simp] theorem takeGuardMark_result (n : StationNo) (s : State) : (takeGuardMark n s).result = s.result := by
  unfold takeGuardMark; split <;> rfl
@[simp] theorem takeGuardMark_params (n : StationNo) (s : State) : (takeGuardMark n s).params = s.params := by
  unfold takeGuardMark; split <;> rfl
@[simp] theorem takeGuardMark_reply (n : StationNo) (s : State) : (takeGuardMark n s).reply = s.reply := by
  unfold takeGuardMark; split <;> rfl
@[simp] theorem takeGuardMark_readData (n : StationNo) (s : State) : (takeGuardMark n s).readData = s.readData := by
  unfold takeGuardMark; split <;> rfl

/-! ### The engines (chapter 7) -/

/-- The pulse end is a retirement with its check, after the engine has left ON (R126). -/
theorem pulseEnd_eq (n : StationNo) (t : Byte) (c : OutcomeCode) (s : State) :
    pulseEnd n t c s =
      retireAndCheck t c (s.setStation n { s.station n with engine := (s.station n).afterPulse, tickLate := false }) := rfl

/-- An arrival does nothing, starts a pulse, or collides. -/
theorem takeArrival_cases (n : StationNo) (s : State) :
    takeArrival n s = s ∨
      (∃ t o, s.arriving n = some (t, o) ∧ (s.station n).engine = .offReady ∧ takeArrival n s = startPulse n t o s) ∨
      ∃ t o, s.arriving n = some (t, o) ∧ takeArrival n s = collide n t s := by
  unfold takeArrival
  split
  · exact .inl rfl
  · rename_i t o h
    split
    · rename_i he; exact .inr (.inl ⟨t, o, h, he, rfl⟩)
    · exact .inr (.inr ⟨t, o, h, rfl⟩)
    · exact .inr (.inr ⟨t, o, h, rfl⟩)
    · exact .inl rfl

/-- An end by an off position does nothing or ends the pulse of the ON engine. -/
theorem takeOffPosition_cases (n : StationNo) (s : State) :
    takeOffPosition n s = s ∨
      ∃ q c, (s.station n).engine = .on q ∧ takeOffPosition n s = pulseEnd n q.tag c s := by
  unfold takeOffPosition
  split
  · rename_i t off mx c h
    split
    · exact .inr ⟨_, _, h, rfl⟩
    · exact .inl rfl
  · exact .inl rfl

theorem takeTimePulseEnd_cases (n : StationNo) (s : State) :
    takeTimePulseEnd n s = s ∨
      ∃ q c, (s.station n).engine = .on q ∧ takeTimePulseEnd n s = pulseEnd n q.tag c s := by
  unfold takeTimePulseEnd
  split
  · rename_i t e w c h
    split
    · exact .inr ⟨_, _, h, rfl⟩
    · exact .inl rfl
  · exact .inl rfl

theorem takeMaxOnCut_cases (n : StationNo) (s : State) :
    takeMaxOnCut n s = s ∨
      ∃ q, (s.station n).engine = .on q ∧ takeMaxOnCut n s = pulseEnd n q.tag .firedCut s := by
  unfold takeMaxOnCut
  split
  · rename_i t off mx c h
    split
    · exact .inr ⟨_, h, rfl⟩
    · exact .inl rfl
  · exact .inl rfl

/-! ### What engineTick leaves unchanged -/

@[simp] theorem engineTick_pending (n : StationNo) (s : State) : (engineTick n s).pending = s.pending := by
  unfold engineTick; simp only; split <;> rfl
@[simp] theorem engineTick_inReset (n : StationNo) (s : State) : (engineTick n s).inReset = s.inReset := by
  unfold engineTick; simp only; split <;> rfl
@[simp] theorem engineTick_timebase (n : StationNo) (s : State) : (engineTick n s).timebase = s.timebase := by
  unfold engineTick; simp only; split <;> rfl
@[simp] theorem engineTick_divCount (n : StationNo) (s : State) : (engineTick n s).divCount = s.divCount := by
  unfold engineTick; simp only; split <;> rfl
@[simp] theorem engineTick_p (n : StationNo) (s : State) : (engineTick n s).p = s.p := by
  unfold engineTick; simp only; split <;> rfl
@[simp] theorem engineTick_k (n : StationNo) (s : State) : (engineTick n s).k = s.k := by
  unfold engineTick; simp only; split <;> rfl
@[simp] theorem engineTick_encFilter (n : StationNo) (s : State) : (engineTick n s).encFilter = s.encFilter := by
  unfold engineTick; simp only; split <;> rfl
@[simp] theorem engineTick_advanceDue (n : StationNo) (s : State) : (engineTick n s).advanceDue = s.advanceDue := by
  unfold engineTick; simp only; split <;> rfl
@[simp] theorem engineTick_latchMid (n : StationNo) (s : State) : (engineTick n s).latchMid = s.latchMid := by
  unfold engineTick; simp only; split <;> rfl
@[simp] theorem engineTick_latchHigh (n : StationNo) (s : State) : (engineTick n s).latchHigh = s.latchHigh := by
  unfold engineTick; simp only; split <;> rfl
@[simp] theorem engineTick_run (n : StationNo) (s : State) : (engineTick n s).run = s.run := by
  unfold engineTick; simp only; split <;> rfl
@[simp] theorem engineTick_haltCause (n : StationNo) (s : State) : (engineTick n s).haltCause = s.haltCause := by
  unfold engineTick; simp only; split <;> rfl
@[simp] theorem engineTick_xstopFilter (n : StationNo) (s : State) : (engineTick n s).xstopFilter = s.xstopFilter := by
  unfold engineTick; simp only; split <;> rfl
@[simp] theorem engineTick_xstopEdge (n : StationNo) (s : State) : (engineTick n s).xstopEdge = s.xstopEdge := by
  unfold engineTick; simp only; split <;> rfl
@[simp] theorem engineTick_lanes (n : StationNo) (s : State) : (engineTick n s).lanes = s.lanes := by
  unfold engineTick; simp only; split <;> rfl
@[simp] theorem engineTick_announce (n : StationNo) (s : State) : (engineTick n s).announce = s.announce := by
  unfold engineTick; simp only; split <;> rfl
@[simp] theorem engineTick_tc (n : StationNo) (s : State) : (engineTick n s).tc = s.tc := by
  unfold engineTick; simp only; split <;> rfl
@[simp] theorem engineTick_freeThreshold (n : StationNo) (s : State) : (engineTick n s).freeThreshold = s.freeThreshold := by
  unfold engineTick; simp only; split <;> rfl
@[simp] theorem engineTick_profiles (n : StationNo) (s : State) : (engineTick n s).profiles = s.profiles := by
  unfold engineTick; simp only; split <;> rfl
@[simp] theorem engineTick_queue (n : StationNo) (s : State) : (engineTick n s).queue = s.queue := by
  unfold engineTick; simp only; split <;> rfl
@[simp] theorem engineTick_backlog (n : StationNo) (s : State) : (engineTick n s).backlog = s.backlog := by
  unfold engineTick; simp only; split <;> rfl
@[simp] theorem engineTick_laneAlert (n : StationNo) (s : State) : (engineTick n s).laneAlert = s.laneAlert := by
  unfold engineTick; simp only; split <;> rfl
@[simp] theorem engineTick_haltEntered (n : StationNo) (s : State) : (engineTick n s).haltEntered = s.haltEntered := by
  unfold engineTick; simp only; split <;> rfl
@[simp] theorem engineTick_drainDone (n : StationNo) (s : State) : (engineTick n s).drainDone = s.drainDone := by
  unfold engineTick; simp only; split <;> rfl
@[simp] theorem engineTick_freeLow (n : StationNo) (s : State) : (engineTick n s).freeLow = s.freeLow := by
  unfold engineTick; simp only; split <;> rfl
@[simp] theorem engineTick_backlogFlag (n : StationNo) (s : State) : (engineTick n s).backlogFlag = s.backlogFlag := by
  unfold engineTick; simp only; split <;> rfl
@[simp] theorem engineTick_enables (n : StationNo) (s : State) : (engineTick n s).enables = s.enables := by
  unfold engineTick; simp only; split <;> rfl
@[simp] theorem engineTick_cmd (n : StationNo) (s : State) : (engineTick n s).cmd = s.cmd := by
  unfold engineTick; simp only; split <;> rfl
@[simp] theorem engineTick_result (n : StationNo) (s : State) : (engineTick n s).result = s.result := by
  unfold engineTick; simp only; split <;> rfl
@[simp] theorem engineTick_params (n : StationNo) (s : State) : (engineTick n s).params = s.params := by
  unfold engineTick; simp only; split <;> rfl
@[simp] theorem engineTick_reply (n : StationNo) (s : State) : (engineTick n s).reply = s.reply := by
  unfold engineTick; simp only; split <;> rfl
@[simp] theorem engineTick_readData (n : StationNo) (s : State) : (engineTick n s).readData = s.readData := by
  unfold engineTick; simp only; split <;> rfl

/-! ### What takeLateTick leaves unchanged -/

@[simp] theorem takeLateTick_pending (n : StationNo) (s : State) : (takeLateTick n s).pending = s.pending := by
  unfold takeLateTick; split <;> simp
@[simp] theorem takeLateTick_inReset (n : StationNo) (s : State) : (takeLateTick n s).inReset = s.inReset := by
  unfold takeLateTick; split <;> simp
@[simp] theorem takeLateTick_timebase (n : StationNo) (s : State) : (takeLateTick n s).timebase = s.timebase := by
  unfold takeLateTick; split <;> simp
@[simp] theorem takeLateTick_divCount (n : StationNo) (s : State) : (takeLateTick n s).divCount = s.divCount := by
  unfold takeLateTick; split <;> simp
@[simp] theorem takeLateTick_p (n : StationNo) (s : State) : (takeLateTick n s).p = s.p := by
  unfold takeLateTick; split <;> simp
@[simp] theorem takeLateTick_k (n : StationNo) (s : State) : (takeLateTick n s).k = s.k := by
  unfold takeLateTick; split <;> simp
@[simp] theorem takeLateTick_encFilter (n : StationNo) (s : State) : (takeLateTick n s).encFilter = s.encFilter := by
  unfold takeLateTick; split <;> simp
@[simp] theorem takeLateTick_advanceDue (n : StationNo) (s : State) : (takeLateTick n s).advanceDue = s.advanceDue := by
  unfold takeLateTick; split <;> simp
@[simp] theorem takeLateTick_latchMid (n : StationNo) (s : State) : (takeLateTick n s).latchMid = s.latchMid := by
  unfold takeLateTick; split <;> simp
@[simp] theorem takeLateTick_latchHigh (n : StationNo) (s : State) : (takeLateTick n s).latchHigh = s.latchHigh := by
  unfold takeLateTick; split <;> simp
@[simp] theorem takeLateTick_run (n : StationNo) (s : State) : (takeLateTick n s).run = s.run := by
  unfold takeLateTick; split <;> simp
@[simp] theorem takeLateTick_haltCause (n : StationNo) (s : State) : (takeLateTick n s).haltCause = s.haltCause := by
  unfold takeLateTick; split <;> simp
@[simp] theorem takeLateTick_xstopFilter (n : StationNo) (s : State) : (takeLateTick n s).xstopFilter = s.xstopFilter := by
  unfold takeLateTick; split <;> simp
@[simp] theorem takeLateTick_xstopEdge (n : StationNo) (s : State) : (takeLateTick n s).xstopEdge = s.xstopEdge := by
  unfold takeLateTick; split <;> simp
@[simp] theorem takeLateTick_lanes (n : StationNo) (s : State) : (takeLateTick n s).lanes = s.lanes := by
  unfold takeLateTick; split <;> simp
@[simp] theorem takeLateTick_announce (n : StationNo) (s : State) : (takeLateTick n s).announce = s.announce := by
  unfold takeLateTick; split <;> simp
@[simp] theorem takeLateTick_tc (n : StationNo) (s : State) : (takeLateTick n s).tc = s.tc := by
  unfold takeLateTick; split <;> simp
@[simp] theorem takeLateTick_freeThreshold (n : StationNo) (s : State) : (takeLateTick n s).freeThreshold = s.freeThreshold := by
  unfold takeLateTick; split <;> simp
@[simp] theorem takeLateTick_profiles (n : StationNo) (s : State) : (takeLateTick n s).profiles = s.profiles := by
  unfold takeLateTick; split <;> simp
@[simp] theorem takeLateTick_queue (n : StationNo) (s : State) : (takeLateTick n s).queue = s.queue := by
  unfold takeLateTick; split <;> simp
@[simp] theorem takeLateTick_backlog (n : StationNo) (s : State) : (takeLateTick n s).backlog = s.backlog := by
  unfold takeLateTick; split <;> simp
@[simp] theorem takeLateTick_laneAlert (n : StationNo) (s : State) : (takeLateTick n s).laneAlert = s.laneAlert := by
  unfold takeLateTick; split <;> simp
@[simp] theorem takeLateTick_haltEntered (n : StationNo) (s : State) : (takeLateTick n s).haltEntered = s.haltEntered := by
  unfold takeLateTick; split <;> simp
@[simp] theorem takeLateTick_drainDone (n : StationNo) (s : State) : (takeLateTick n s).drainDone = s.drainDone := by
  unfold takeLateTick; split <;> simp
@[simp] theorem takeLateTick_freeLow (n : StationNo) (s : State) : (takeLateTick n s).freeLow = s.freeLow := by
  unfold takeLateTick; split <;> simp
@[simp] theorem takeLateTick_backlogFlag (n : StationNo) (s : State) : (takeLateTick n s).backlogFlag = s.backlogFlag := by
  unfold takeLateTick; split <;> simp
@[simp] theorem takeLateTick_enables (n : StationNo) (s : State) : (takeLateTick n s).enables = s.enables := by
  unfold takeLateTick; split <;> simp
@[simp] theorem takeLateTick_cmd (n : StationNo) (s : State) : (takeLateTick n s).cmd = s.cmd := by
  unfold takeLateTick; split <;> simp
@[simp] theorem takeLateTick_result (n : StationNo) (s : State) : (takeLateTick n s).result = s.result := by
  unfold takeLateTick; split <;> simp
@[simp] theorem takeLateTick_params (n : StationNo) (s : State) : (takeLateTick n s).params = s.params := by
  unfold takeLateTick; split <;> simp
@[simp] theorem takeLateTick_reply (n : StationNo) (s : State) : (takeLateTick n s).reply = s.reply := by
  unfold takeLateTick; split <;> simp
@[simp] theorem takeLateTick_readData (n : StationNo) (s : State) : (takeLateTick n s).readData = s.readData := by
  unfold takeLateTick; split <;> simp

/-! ### What pulseEnd leaves unchanged -/

@[simp] theorem pulseEnd_pending (n : StationNo) (t : Byte) (c : OutcomeCode) (s : State) : (pulseEnd n t c s).pending = s.pending := by
  simp [pulseEnd]
@[simp] theorem pulseEnd_inReset (n : StationNo) (t : Byte) (c : OutcomeCode) (s : State) : (pulseEnd n t c s).inReset = s.inReset := by
  simp [pulseEnd]
@[simp] theorem pulseEnd_timebase (n : StationNo) (t : Byte) (c : OutcomeCode) (s : State) : (pulseEnd n t c s).timebase = s.timebase := by
  simp [pulseEnd]
@[simp] theorem pulseEnd_divCount (n : StationNo) (t : Byte) (c : OutcomeCode) (s : State) : (pulseEnd n t c s).divCount = s.divCount := by
  simp [pulseEnd]
@[simp] theorem pulseEnd_p (n : StationNo) (t : Byte) (c : OutcomeCode) (s : State) : (pulseEnd n t c s).p = s.p := by
  simp [pulseEnd]
@[simp] theorem pulseEnd_k (n : StationNo) (t : Byte) (c : OutcomeCode) (s : State) : (pulseEnd n t c s).k = s.k := by
  simp [pulseEnd]
@[simp] theorem pulseEnd_encFilter (n : StationNo) (t : Byte) (c : OutcomeCode) (s : State) : (pulseEnd n t c s).encFilter = s.encFilter := by
  simp [pulseEnd]
@[simp] theorem pulseEnd_latchMid (n : StationNo) (t : Byte) (c : OutcomeCode) (s : State) : (pulseEnd n t c s).latchMid = s.latchMid := by
  simp [pulseEnd]
@[simp] theorem pulseEnd_latchHigh (n : StationNo) (t : Byte) (c : OutcomeCode) (s : State) : (pulseEnd n t c s).latchHigh = s.latchHigh := by
  simp [pulseEnd]
@[simp] theorem pulseEnd_haltCause (n : StationNo) (t : Byte) (c : OutcomeCode) (s : State) : (pulseEnd n t c s).haltCause = s.haltCause := by
  simp [pulseEnd]
@[simp] theorem pulseEnd_xstopFilter (n : StationNo) (t : Byte) (c : OutcomeCode) (s : State) : (pulseEnd n t c s).xstopFilter = s.xstopFilter := by
  simp [pulseEnd]
@[simp] theorem pulseEnd_xstopEdge (n : StationNo) (t : Byte) (c : OutcomeCode) (s : State) : (pulseEnd n t c s).xstopEdge = s.xstopEdge := by
  simp [pulseEnd]
@[simp] theorem pulseEnd_tc (n : StationNo) (t : Byte) (c : OutcomeCode) (s : State) : (pulseEnd n t c s).tc = s.tc := by
  simp [pulseEnd]
@[simp] theorem pulseEnd_freeThreshold (n : StationNo) (t : Byte) (c : OutcomeCode) (s : State) : (pulseEnd n t c s).freeThreshold = s.freeThreshold := by
  simp [pulseEnd]
@[simp] theorem pulseEnd_profiles (n : StationNo) (t : Byte) (c : OutcomeCode) (s : State) : (pulseEnd n t c s).profiles = s.profiles := by
  simp [pulseEnd]
@[simp] theorem pulseEnd_laneAlert (n : StationNo) (t : Byte) (c : OutcomeCode) (s : State) : (pulseEnd n t c s).laneAlert = s.laneAlert := by
  simp [pulseEnd]
@[simp] theorem pulseEnd_haltEntered (n : StationNo) (t : Byte) (c : OutcomeCode) (s : State) : (pulseEnd n t c s).haltEntered = s.haltEntered := by
  simp [pulseEnd]
@[simp] theorem pulseEnd_freeLow (n : StationNo) (t : Byte) (c : OutcomeCode) (s : State) : (pulseEnd n t c s).freeLow = s.freeLow := by
  simp [pulseEnd]
@[simp] theorem pulseEnd_enables (n : StationNo) (t : Byte) (c : OutcomeCode) (s : State) : (pulseEnd n t c s).enables = s.enables := by
  simp [pulseEnd]
@[simp] theorem pulseEnd_cmd (n : StationNo) (t : Byte) (c : OutcomeCode) (s : State) : (pulseEnd n t c s).cmd = s.cmd := by
  simp [pulseEnd]
@[simp] theorem pulseEnd_result (n : StationNo) (t : Byte) (c : OutcomeCode) (s : State) : (pulseEnd n t c s).result = s.result := by
  simp [pulseEnd]
@[simp] theorem pulseEnd_params (n : StationNo) (t : Byte) (c : OutcomeCode) (s : State) : (pulseEnd n t c s).params = s.params := by
  simp [pulseEnd]
@[simp] theorem pulseEnd_reply (n : StationNo) (t : Byte) (c : OutcomeCode) (s : State) : (pulseEnd n t c s).reply = s.reply := by
  simp [pulseEnd]
@[simp] theorem pulseEnd_readData (n : StationNo) (t : Byte) (c : OutcomeCode) (s : State) : (pulseEnd n t c s).readData = s.readData := by
  simp [pulseEnd]

/-! ### What startPulse leaves unchanged -/

@[simp] theorem startPulse_pending (n : StationNo) (t : Byte) (x : Order) (s : State) : (startPulse n t x s).pending = s.pending := rfl
@[simp] theorem startPulse_inReset (n : StationNo) (t : Byte) (x : Order) (s : State) : (startPulse n t x s).inReset = s.inReset := rfl
@[simp] theorem startPulse_timebase (n : StationNo) (t : Byte) (x : Order) (s : State) : (startPulse n t x s).timebase = s.timebase := rfl
@[simp] theorem startPulse_divCount (n : StationNo) (t : Byte) (x : Order) (s : State) : (startPulse n t x s).divCount = s.divCount := rfl
@[simp] theorem startPulse_p (n : StationNo) (t : Byte) (x : Order) (s : State) : (startPulse n t x s).p = s.p := rfl
@[simp] theorem startPulse_k (n : StationNo) (t : Byte) (x : Order) (s : State) : (startPulse n t x s).k = s.k := rfl
@[simp] theorem startPulse_encFilter (n : StationNo) (t : Byte) (x : Order) (s : State) : (startPulse n t x s).encFilter = s.encFilter := rfl
@[simp] theorem startPulse_advanceDue (n : StationNo) (t : Byte) (x : Order) (s : State) : (startPulse n t x s).advanceDue = s.advanceDue := rfl
@[simp] theorem startPulse_latchMid (n : StationNo) (t : Byte) (x : Order) (s : State) : (startPulse n t x s).latchMid = s.latchMid := rfl
@[simp] theorem startPulse_latchHigh (n : StationNo) (t : Byte) (x : Order) (s : State) : (startPulse n t x s).latchHigh = s.latchHigh := rfl
@[simp] theorem startPulse_run (n : StationNo) (t : Byte) (x : Order) (s : State) : (startPulse n t x s).run = s.run := rfl
@[simp] theorem startPulse_haltCause (n : StationNo) (t : Byte) (x : Order) (s : State) : (startPulse n t x s).haltCause = s.haltCause := rfl
@[simp] theorem startPulse_xstopFilter (n : StationNo) (t : Byte) (x : Order) (s : State) : (startPulse n t x s).xstopFilter = s.xstopFilter := rfl
@[simp] theorem startPulse_xstopEdge (n : StationNo) (t : Byte) (x : Order) (s : State) : (startPulse n t x s).xstopEdge = s.xstopEdge := rfl
@[simp] theorem startPulse_lanes (n : StationNo) (t : Byte) (x : Order) (s : State) : (startPulse n t x s).lanes = s.lanes := rfl
@[simp] theorem startPulse_announce (n : StationNo) (t : Byte) (x : Order) (s : State) : (startPulse n t x s).announce = s.announce := rfl
@[simp] theorem startPulse_tc (n : StationNo) (t : Byte) (x : Order) (s : State) : (startPulse n t x s).tc = s.tc := rfl
@[simp] theorem startPulse_freeThreshold (n : StationNo) (t : Byte) (x : Order) (s : State) : (startPulse n t x s).freeThreshold = s.freeThreshold := rfl
@[simp] theorem startPulse_profiles (n : StationNo) (t : Byte) (x : Order) (s : State) : (startPulse n t x s).profiles = s.profiles := rfl
@[simp] theorem startPulse_queue (n : StationNo) (t : Byte) (x : Order) (s : State) : (startPulse n t x s).queue = s.queue := rfl
@[simp] theorem startPulse_backlog (n : StationNo) (t : Byte) (x : Order) (s : State) : (startPulse n t x s).backlog = s.backlog := rfl
@[simp] theorem startPulse_laneAlert (n : StationNo) (t : Byte) (x : Order) (s : State) : (startPulse n t x s).laneAlert = s.laneAlert := rfl
@[simp] theorem startPulse_haltEntered (n : StationNo) (t : Byte) (x : Order) (s : State) : (startPulse n t x s).haltEntered = s.haltEntered := rfl
@[simp] theorem startPulse_drainDone (n : StationNo) (t : Byte) (x : Order) (s : State) : (startPulse n t x s).drainDone = s.drainDone := rfl
@[simp] theorem startPulse_freeLow (n : StationNo) (t : Byte) (x : Order) (s : State) : (startPulse n t x s).freeLow = s.freeLow := rfl
@[simp] theorem startPulse_backlogFlag (n : StationNo) (t : Byte) (x : Order) (s : State) : (startPulse n t x s).backlogFlag = s.backlogFlag := rfl
@[simp] theorem startPulse_enables (n : StationNo) (t : Byte) (x : Order) (s : State) : (startPulse n t x s).enables = s.enables := rfl
@[simp] theorem startPulse_cmd (n : StationNo) (t : Byte) (x : Order) (s : State) : (startPulse n t x s).cmd = s.cmd := rfl
@[simp] theorem startPulse_result (n : StationNo) (t : Byte) (x : Order) (s : State) : (startPulse n t x s).result = s.result := rfl
@[simp] theorem startPulse_params (n : StationNo) (t : Byte) (x : Order) (s : State) : (startPulse n t x s).params = s.params := rfl
@[simp] theorem startPulse_reply (n : StationNo) (t : Byte) (x : Order) (s : State) : (startPulse n t x s).reply = s.reply := rfl
@[simp] theorem startPulse_readData (n : StationNo) (t : Byte) (x : Order) (s : State) : (startPulse n t x s).readData = s.readData := rfl

/-! ### What collide leaves unchanged -/

@[simp] theorem collide_pending (n : StationNo) (t : Byte) (s : State) : (collide n t s).pending = s.pending := by
  simp [collide]
@[simp] theorem collide_inReset (n : StationNo) (t : Byte) (s : State) : (collide n t s).inReset = s.inReset := by
  simp [collide]
@[simp] theorem collide_timebase (n : StationNo) (t : Byte) (s : State) : (collide n t s).timebase = s.timebase := by
  simp [collide]
@[simp] theorem collide_divCount (n : StationNo) (t : Byte) (s : State) : (collide n t s).divCount = s.divCount := by
  simp [collide]
@[simp] theorem collide_p (n : StationNo) (t : Byte) (s : State) : (collide n t s).p = s.p := by
  simp [collide]
@[simp] theorem collide_k (n : StationNo) (t : Byte) (s : State) : (collide n t s).k = s.k := by
  simp [collide]
@[simp] theorem collide_encFilter (n : StationNo) (t : Byte) (s : State) : (collide n t s).encFilter = s.encFilter := by
  simp [collide]
@[simp] theorem collide_latchMid (n : StationNo) (t : Byte) (s : State) : (collide n t s).latchMid = s.latchMid := by
  simp [collide]
@[simp] theorem collide_latchHigh (n : StationNo) (t : Byte) (s : State) : (collide n t s).latchHigh = s.latchHigh := by
  simp [collide]
@[simp] theorem collide_haltCause (n : StationNo) (t : Byte) (s : State) : (collide n t s).haltCause = s.haltCause := by
  simp [collide]
@[simp] theorem collide_xstopFilter (n : StationNo) (t : Byte) (s : State) : (collide n t s).xstopFilter = s.xstopFilter := by
  simp [collide]
@[simp] theorem collide_xstopEdge (n : StationNo) (t : Byte) (s : State) : (collide n t s).xstopEdge = s.xstopEdge := by
  simp [collide]
@[simp] theorem collide_tc (n : StationNo) (t : Byte) (s : State) : (collide n t s).tc = s.tc := by
  simp [collide]
@[simp] theorem collide_freeThreshold (n : StationNo) (t : Byte) (s : State) : (collide n t s).freeThreshold = s.freeThreshold := by
  simp [collide]
@[simp] theorem collide_profiles (n : StationNo) (t : Byte) (s : State) : (collide n t s).profiles = s.profiles := by
  simp [collide]
@[simp] theorem collide_laneAlert (n : StationNo) (t : Byte) (s : State) : (collide n t s).laneAlert = s.laneAlert := by
  simp [collide]
@[simp] theorem collide_haltEntered (n : StationNo) (t : Byte) (s : State) : (collide n t s).haltEntered = s.haltEntered := by
  simp [collide]
@[simp] theorem collide_freeLow (n : StationNo) (t : Byte) (s : State) : (collide n t s).freeLow = s.freeLow := by
  simp [collide]
@[simp] theorem collide_enables (n : StationNo) (t : Byte) (s : State) : (collide n t s).enables = s.enables := by
  simp [collide]
@[simp] theorem collide_cmd (n : StationNo) (t : Byte) (s : State) : (collide n t s).cmd = s.cmd := by
  simp [collide]
@[simp] theorem collide_result (n : StationNo) (t : Byte) (s : State) : (collide n t s).result = s.result := by
  simp [collide]
@[simp] theorem collide_params (n : StationNo) (t : Byte) (s : State) : (collide n t s).params = s.params := by
  simp [collide]
@[simp] theorem collide_reply (n : StationNo) (t : Byte) (s : State) : (collide n t s).reply = s.reply := by
  simp [collide]
@[simp] theorem collide_readData (n : StationNo) (t : Byte) (s : State) : (collide n t s).readData = s.readData := by
  simp [collide]

/-! ### What takeTimePulseEnd leaves unchanged -/

@[simp] theorem takeTimePulseEnd_pending (n : StationNo) (s : State) : (takeTimePulseEnd n s).pending = s.pending := by
  rcases takeTimePulseEnd_cases n s with h | ⟨q, c, -, h⟩ <;> simp [h]
@[simp] theorem takeTimePulseEnd_inReset (n : StationNo) (s : State) : (takeTimePulseEnd n s).inReset = s.inReset := by
  rcases takeTimePulseEnd_cases n s with h | ⟨q, c, -, h⟩ <;> simp [h]
@[simp] theorem takeTimePulseEnd_timebase (n : StationNo) (s : State) : (takeTimePulseEnd n s).timebase = s.timebase := by
  rcases takeTimePulseEnd_cases n s with h | ⟨q, c, -, h⟩ <;> simp [h]
@[simp] theorem takeTimePulseEnd_divCount (n : StationNo) (s : State) : (takeTimePulseEnd n s).divCount = s.divCount := by
  rcases takeTimePulseEnd_cases n s with h | ⟨q, c, -, h⟩ <;> simp [h]
@[simp] theorem takeTimePulseEnd_p (n : StationNo) (s : State) : (takeTimePulseEnd n s).p = s.p := by
  rcases takeTimePulseEnd_cases n s with h | ⟨q, c, -, h⟩ <;> simp [h]
@[simp] theorem takeTimePulseEnd_k (n : StationNo) (s : State) : (takeTimePulseEnd n s).k = s.k := by
  rcases takeTimePulseEnd_cases n s with h | ⟨q, c, -, h⟩ <;> simp [h]
@[simp] theorem takeTimePulseEnd_encFilter (n : StationNo) (s : State) : (takeTimePulseEnd n s).encFilter = s.encFilter := by
  rcases takeTimePulseEnd_cases n s with h | ⟨q, c, -, h⟩ <;> simp [h]
@[simp] theorem takeTimePulseEnd_latchMid (n : StationNo) (s : State) : (takeTimePulseEnd n s).latchMid = s.latchMid := by
  rcases takeTimePulseEnd_cases n s with h | ⟨q, c, -, h⟩ <;> simp [h]
@[simp] theorem takeTimePulseEnd_latchHigh (n : StationNo) (s : State) : (takeTimePulseEnd n s).latchHigh = s.latchHigh := by
  rcases takeTimePulseEnd_cases n s with h | ⟨q, c, -, h⟩ <;> simp [h]
@[simp] theorem takeTimePulseEnd_haltCause (n : StationNo) (s : State) : (takeTimePulseEnd n s).haltCause = s.haltCause := by
  rcases takeTimePulseEnd_cases n s with h | ⟨q, c, -, h⟩ <;> simp [h]
@[simp] theorem takeTimePulseEnd_xstopFilter (n : StationNo) (s : State) : (takeTimePulseEnd n s).xstopFilter = s.xstopFilter := by
  rcases takeTimePulseEnd_cases n s with h | ⟨q, c, -, h⟩ <;> simp [h]
@[simp] theorem takeTimePulseEnd_xstopEdge (n : StationNo) (s : State) : (takeTimePulseEnd n s).xstopEdge = s.xstopEdge := by
  rcases takeTimePulseEnd_cases n s with h | ⟨q, c, -, h⟩ <;> simp [h]
@[simp] theorem takeTimePulseEnd_tc (n : StationNo) (s : State) : (takeTimePulseEnd n s).tc = s.tc := by
  rcases takeTimePulseEnd_cases n s with h | ⟨q, c, -, h⟩ <;> simp [h]
@[simp] theorem takeTimePulseEnd_freeThreshold (n : StationNo) (s : State) : (takeTimePulseEnd n s).freeThreshold = s.freeThreshold := by
  rcases takeTimePulseEnd_cases n s with h | ⟨q, c, -, h⟩ <;> simp [h]
@[simp] theorem takeTimePulseEnd_profiles (n : StationNo) (s : State) : (takeTimePulseEnd n s).profiles = s.profiles := by
  rcases takeTimePulseEnd_cases n s with h | ⟨q, c, -, h⟩ <;> simp [h]
@[simp] theorem takeTimePulseEnd_laneAlert (n : StationNo) (s : State) : (takeTimePulseEnd n s).laneAlert = s.laneAlert := by
  rcases takeTimePulseEnd_cases n s with h | ⟨q, c, -, h⟩ <;> simp [h]
@[simp] theorem takeTimePulseEnd_haltEntered (n : StationNo) (s : State) : (takeTimePulseEnd n s).haltEntered = s.haltEntered := by
  rcases takeTimePulseEnd_cases n s with h | ⟨q, c, -, h⟩ <;> simp [h]
@[simp] theorem takeTimePulseEnd_freeLow (n : StationNo) (s : State) : (takeTimePulseEnd n s).freeLow = s.freeLow := by
  rcases takeTimePulseEnd_cases n s with h | ⟨q, c, -, h⟩ <;> simp [h]
@[simp] theorem takeTimePulseEnd_enables (n : StationNo) (s : State) : (takeTimePulseEnd n s).enables = s.enables := by
  rcases takeTimePulseEnd_cases n s with h | ⟨q, c, -, h⟩ <;> simp [h]
@[simp] theorem takeTimePulseEnd_cmd (n : StationNo) (s : State) : (takeTimePulseEnd n s).cmd = s.cmd := by
  rcases takeTimePulseEnd_cases n s with h | ⟨q, c, -, h⟩ <;> simp [h]
@[simp] theorem takeTimePulseEnd_result (n : StationNo) (s : State) : (takeTimePulseEnd n s).result = s.result := by
  rcases takeTimePulseEnd_cases n s with h | ⟨q, c, -, h⟩ <;> simp [h]
@[simp] theorem takeTimePulseEnd_params (n : StationNo) (s : State) : (takeTimePulseEnd n s).params = s.params := by
  rcases takeTimePulseEnd_cases n s with h | ⟨q, c, -, h⟩ <;> simp [h]
@[simp] theorem takeTimePulseEnd_reply (n : StationNo) (s : State) : (takeTimePulseEnd n s).reply = s.reply := by
  rcases takeTimePulseEnd_cases n s with h | ⟨q, c, -, h⟩ <;> simp [h]
@[simp] theorem takeTimePulseEnd_readData (n : StationNo) (s : State) : (takeTimePulseEnd n s).readData = s.readData := by
  rcases takeTimePulseEnd_cases n s with h | ⟨q, c, -, h⟩ <;> simp [h]

/-! ### What takeMaxOnCut leaves unchanged -/

@[simp] theorem takeMaxOnCut_pending (n : StationNo) (s : State) : (takeMaxOnCut n s).pending = s.pending := by
  rcases takeMaxOnCut_cases n s with h | ⟨q, -, h⟩ <;> simp [h]
@[simp] theorem takeMaxOnCut_inReset (n : StationNo) (s : State) : (takeMaxOnCut n s).inReset = s.inReset := by
  rcases takeMaxOnCut_cases n s with h | ⟨q, -, h⟩ <;> simp [h]
@[simp] theorem takeMaxOnCut_timebase (n : StationNo) (s : State) : (takeMaxOnCut n s).timebase = s.timebase := by
  rcases takeMaxOnCut_cases n s with h | ⟨q, -, h⟩ <;> simp [h]
@[simp] theorem takeMaxOnCut_divCount (n : StationNo) (s : State) : (takeMaxOnCut n s).divCount = s.divCount := by
  rcases takeMaxOnCut_cases n s with h | ⟨q, -, h⟩ <;> simp [h]
@[simp] theorem takeMaxOnCut_p (n : StationNo) (s : State) : (takeMaxOnCut n s).p = s.p := by
  rcases takeMaxOnCut_cases n s with h | ⟨q, -, h⟩ <;> simp [h]
@[simp] theorem takeMaxOnCut_k (n : StationNo) (s : State) : (takeMaxOnCut n s).k = s.k := by
  rcases takeMaxOnCut_cases n s with h | ⟨q, -, h⟩ <;> simp [h]
@[simp] theorem takeMaxOnCut_encFilter (n : StationNo) (s : State) : (takeMaxOnCut n s).encFilter = s.encFilter := by
  rcases takeMaxOnCut_cases n s with h | ⟨q, -, h⟩ <;> simp [h]
@[simp] theorem takeMaxOnCut_latchMid (n : StationNo) (s : State) : (takeMaxOnCut n s).latchMid = s.latchMid := by
  rcases takeMaxOnCut_cases n s with h | ⟨q, -, h⟩ <;> simp [h]
@[simp] theorem takeMaxOnCut_latchHigh (n : StationNo) (s : State) : (takeMaxOnCut n s).latchHigh = s.latchHigh := by
  rcases takeMaxOnCut_cases n s with h | ⟨q, -, h⟩ <;> simp [h]
@[simp] theorem takeMaxOnCut_haltCause (n : StationNo) (s : State) : (takeMaxOnCut n s).haltCause = s.haltCause := by
  rcases takeMaxOnCut_cases n s with h | ⟨q, -, h⟩ <;> simp [h]
@[simp] theorem takeMaxOnCut_xstopFilter (n : StationNo) (s : State) : (takeMaxOnCut n s).xstopFilter = s.xstopFilter := by
  rcases takeMaxOnCut_cases n s with h | ⟨q, -, h⟩ <;> simp [h]
@[simp] theorem takeMaxOnCut_xstopEdge (n : StationNo) (s : State) : (takeMaxOnCut n s).xstopEdge = s.xstopEdge := by
  rcases takeMaxOnCut_cases n s with h | ⟨q, -, h⟩ <;> simp [h]
@[simp] theorem takeMaxOnCut_tc (n : StationNo) (s : State) : (takeMaxOnCut n s).tc = s.tc := by
  rcases takeMaxOnCut_cases n s with h | ⟨q, -, h⟩ <;> simp [h]
@[simp] theorem takeMaxOnCut_freeThreshold (n : StationNo) (s : State) : (takeMaxOnCut n s).freeThreshold = s.freeThreshold := by
  rcases takeMaxOnCut_cases n s with h | ⟨q, -, h⟩ <;> simp [h]
@[simp] theorem takeMaxOnCut_profiles (n : StationNo) (s : State) : (takeMaxOnCut n s).profiles = s.profiles := by
  rcases takeMaxOnCut_cases n s with h | ⟨q, -, h⟩ <;> simp [h]
@[simp] theorem takeMaxOnCut_laneAlert (n : StationNo) (s : State) : (takeMaxOnCut n s).laneAlert = s.laneAlert := by
  rcases takeMaxOnCut_cases n s with h | ⟨q, -, h⟩ <;> simp [h]
@[simp] theorem takeMaxOnCut_haltEntered (n : StationNo) (s : State) : (takeMaxOnCut n s).haltEntered = s.haltEntered := by
  rcases takeMaxOnCut_cases n s with h | ⟨q, -, h⟩ <;> simp [h]
@[simp] theorem takeMaxOnCut_freeLow (n : StationNo) (s : State) : (takeMaxOnCut n s).freeLow = s.freeLow := by
  rcases takeMaxOnCut_cases n s with h | ⟨q, -, h⟩ <;> simp [h]
@[simp] theorem takeMaxOnCut_enables (n : StationNo) (s : State) : (takeMaxOnCut n s).enables = s.enables := by
  rcases takeMaxOnCut_cases n s with h | ⟨q, -, h⟩ <;> simp [h]
@[simp] theorem takeMaxOnCut_cmd (n : StationNo) (s : State) : (takeMaxOnCut n s).cmd = s.cmd := by
  rcases takeMaxOnCut_cases n s with h | ⟨q, -, h⟩ <;> simp [h]
@[simp] theorem takeMaxOnCut_result (n : StationNo) (s : State) : (takeMaxOnCut n s).result = s.result := by
  rcases takeMaxOnCut_cases n s with h | ⟨q, -, h⟩ <;> simp [h]
@[simp] theorem takeMaxOnCut_params (n : StationNo) (s : State) : (takeMaxOnCut n s).params = s.params := by
  rcases takeMaxOnCut_cases n s with h | ⟨q, -, h⟩ <;> simp [h]
@[simp] theorem takeMaxOnCut_reply (n : StationNo) (s : State) : (takeMaxOnCut n s).reply = s.reply := by
  rcases takeMaxOnCut_cases n s with h | ⟨q, -, h⟩ <;> simp [h]
@[simp] theorem takeMaxOnCut_readData (n : StationNo) (s : State) : (takeMaxOnCut n s).readData = s.readData := by
  rcases takeMaxOnCut_cases n s with h | ⟨q, -, h⟩ <;> simp [h]

/-! ### What takeOffPosition leaves unchanged -/

@[simp] theorem takeOffPosition_pending (n : StationNo) (s : State) : (takeOffPosition n s).pending = s.pending := by
  rcases takeOffPosition_cases n s with h | ⟨q, c, -, h⟩ <;> simp [h]
@[simp] theorem takeOffPosition_inReset (n : StationNo) (s : State) : (takeOffPosition n s).inReset = s.inReset := by
  rcases takeOffPosition_cases n s with h | ⟨q, c, -, h⟩ <;> simp [h]
@[simp] theorem takeOffPosition_timebase (n : StationNo) (s : State) : (takeOffPosition n s).timebase = s.timebase := by
  rcases takeOffPosition_cases n s with h | ⟨q, c, -, h⟩ <;> simp [h]
@[simp] theorem takeOffPosition_divCount (n : StationNo) (s : State) : (takeOffPosition n s).divCount = s.divCount := by
  rcases takeOffPosition_cases n s with h | ⟨q, c, -, h⟩ <;> simp [h]
@[simp] theorem takeOffPosition_p (n : StationNo) (s : State) : (takeOffPosition n s).p = s.p := by
  rcases takeOffPosition_cases n s with h | ⟨q, c, -, h⟩ <;> simp [h]
@[simp] theorem takeOffPosition_k (n : StationNo) (s : State) : (takeOffPosition n s).k = s.k := by
  rcases takeOffPosition_cases n s with h | ⟨q, c, -, h⟩ <;> simp [h]
@[simp] theorem takeOffPosition_encFilter (n : StationNo) (s : State) : (takeOffPosition n s).encFilter = s.encFilter := by
  rcases takeOffPosition_cases n s with h | ⟨q, c, -, h⟩ <;> simp [h]
@[simp] theorem takeOffPosition_latchMid (n : StationNo) (s : State) : (takeOffPosition n s).latchMid = s.latchMid := by
  rcases takeOffPosition_cases n s with h | ⟨q, c, -, h⟩ <;> simp [h]
@[simp] theorem takeOffPosition_latchHigh (n : StationNo) (s : State) : (takeOffPosition n s).latchHigh = s.latchHigh := by
  rcases takeOffPosition_cases n s with h | ⟨q, c, -, h⟩ <;> simp [h]
@[simp] theorem takeOffPosition_haltCause (n : StationNo) (s : State) : (takeOffPosition n s).haltCause = s.haltCause := by
  rcases takeOffPosition_cases n s with h | ⟨q, c, -, h⟩ <;> simp [h]
@[simp] theorem takeOffPosition_xstopFilter (n : StationNo) (s : State) : (takeOffPosition n s).xstopFilter = s.xstopFilter := by
  rcases takeOffPosition_cases n s with h | ⟨q, c, -, h⟩ <;> simp [h]
@[simp] theorem takeOffPosition_xstopEdge (n : StationNo) (s : State) : (takeOffPosition n s).xstopEdge = s.xstopEdge := by
  rcases takeOffPosition_cases n s with h | ⟨q, c, -, h⟩ <;> simp [h]
@[simp] theorem takeOffPosition_tc (n : StationNo) (s : State) : (takeOffPosition n s).tc = s.tc := by
  rcases takeOffPosition_cases n s with h | ⟨q, c, -, h⟩ <;> simp [h]
@[simp] theorem takeOffPosition_freeThreshold (n : StationNo) (s : State) : (takeOffPosition n s).freeThreshold = s.freeThreshold := by
  rcases takeOffPosition_cases n s with h | ⟨q, c, -, h⟩ <;> simp [h]
@[simp] theorem takeOffPosition_profiles (n : StationNo) (s : State) : (takeOffPosition n s).profiles = s.profiles := by
  rcases takeOffPosition_cases n s with h | ⟨q, c, -, h⟩ <;> simp [h]
@[simp] theorem takeOffPosition_laneAlert (n : StationNo) (s : State) : (takeOffPosition n s).laneAlert = s.laneAlert := by
  rcases takeOffPosition_cases n s with h | ⟨q, c, -, h⟩ <;> simp [h]
@[simp] theorem takeOffPosition_haltEntered (n : StationNo) (s : State) : (takeOffPosition n s).haltEntered = s.haltEntered := by
  rcases takeOffPosition_cases n s with h | ⟨q, c, -, h⟩ <;> simp [h]
@[simp] theorem takeOffPosition_freeLow (n : StationNo) (s : State) : (takeOffPosition n s).freeLow = s.freeLow := by
  rcases takeOffPosition_cases n s with h | ⟨q, c, -, h⟩ <;> simp [h]
@[simp] theorem takeOffPosition_enables (n : StationNo) (s : State) : (takeOffPosition n s).enables = s.enables := by
  rcases takeOffPosition_cases n s with h | ⟨q, c, -, h⟩ <;> simp [h]
@[simp] theorem takeOffPosition_cmd (n : StationNo) (s : State) : (takeOffPosition n s).cmd = s.cmd := by
  rcases takeOffPosition_cases n s with h | ⟨q, c, -, h⟩ <;> simp [h]
@[simp] theorem takeOffPosition_result (n : StationNo) (s : State) : (takeOffPosition n s).result = s.result := by
  rcases takeOffPosition_cases n s with h | ⟨q, c, -, h⟩ <;> simp [h]
@[simp] theorem takeOffPosition_params (n : StationNo) (s : State) : (takeOffPosition n s).params = s.params := by
  rcases takeOffPosition_cases n s with h | ⟨q, c, -, h⟩ <;> simp [h]
@[simp] theorem takeOffPosition_reply (n : StationNo) (s : State) : (takeOffPosition n s).reply = s.reply := by
  rcases takeOffPosition_cases n s with h | ⟨q, c, -, h⟩ <;> simp [h]
@[simp] theorem takeOffPosition_readData (n : StationNo) (s : State) : (takeOffPosition n s).readData = s.readData := by
  rcases takeOffPosition_cases n s with h | ⟨q, c, -, h⟩ <;> simp [h]

/-! ### What takeArrival leaves unchanged -/

@[simp] theorem takeArrival_pending (n : StationNo) (s : State) : (takeArrival n s).pending = s.pending := by
  rcases takeArrival_cases n s with h | ⟨t, o, -, -, h⟩ | ⟨t, o, -, h⟩ <;> simp [h]
@[simp] theorem takeArrival_inReset (n : StationNo) (s : State) : (takeArrival n s).inReset = s.inReset := by
  rcases takeArrival_cases n s with h | ⟨t, o, -, -, h⟩ | ⟨t, o, -, h⟩ <;> simp [h]
@[simp] theorem takeArrival_timebase (n : StationNo) (s : State) : (takeArrival n s).timebase = s.timebase := by
  rcases takeArrival_cases n s with h | ⟨t, o, -, -, h⟩ | ⟨t, o, -, h⟩ <;> simp [h]
@[simp] theorem takeArrival_divCount (n : StationNo) (s : State) : (takeArrival n s).divCount = s.divCount := by
  rcases takeArrival_cases n s with h | ⟨t, o, -, -, h⟩ | ⟨t, o, -, h⟩ <;> simp [h]
@[simp] theorem takeArrival_p (n : StationNo) (s : State) : (takeArrival n s).p = s.p := by
  rcases takeArrival_cases n s with h | ⟨t, o, -, -, h⟩ | ⟨t, o, -, h⟩ <;> simp [h]
@[simp] theorem takeArrival_k (n : StationNo) (s : State) : (takeArrival n s).k = s.k := by
  rcases takeArrival_cases n s with h | ⟨t, o, -, -, h⟩ | ⟨t, o, -, h⟩ <;> simp [h]
@[simp] theorem takeArrival_encFilter (n : StationNo) (s : State) : (takeArrival n s).encFilter = s.encFilter := by
  rcases takeArrival_cases n s with h | ⟨t, o, -, -, h⟩ | ⟨t, o, -, h⟩ <;> simp [h]
@[simp] theorem takeArrival_latchMid (n : StationNo) (s : State) : (takeArrival n s).latchMid = s.latchMid := by
  rcases takeArrival_cases n s with h | ⟨t, o, -, -, h⟩ | ⟨t, o, -, h⟩ <;> simp [h]
@[simp] theorem takeArrival_latchHigh (n : StationNo) (s : State) : (takeArrival n s).latchHigh = s.latchHigh := by
  rcases takeArrival_cases n s with h | ⟨t, o, -, -, h⟩ | ⟨t, o, -, h⟩ <;> simp [h]
@[simp] theorem takeArrival_haltCause (n : StationNo) (s : State) : (takeArrival n s).haltCause = s.haltCause := by
  rcases takeArrival_cases n s with h | ⟨t, o, -, -, h⟩ | ⟨t, o, -, h⟩ <;> simp [h]
@[simp] theorem takeArrival_xstopFilter (n : StationNo) (s : State) : (takeArrival n s).xstopFilter = s.xstopFilter := by
  rcases takeArrival_cases n s with h | ⟨t, o, -, -, h⟩ | ⟨t, o, -, h⟩ <;> simp [h]
@[simp] theorem takeArrival_xstopEdge (n : StationNo) (s : State) : (takeArrival n s).xstopEdge = s.xstopEdge := by
  rcases takeArrival_cases n s with h | ⟨t, o, -, -, h⟩ | ⟨t, o, -, h⟩ <;> simp [h]
@[simp] theorem takeArrival_tc (n : StationNo) (s : State) : (takeArrival n s).tc = s.tc := by
  rcases takeArrival_cases n s with h | ⟨t, o, -, -, h⟩ | ⟨t, o, -, h⟩ <;> simp [h]
@[simp] theorem takeArrival_freeThreshold (n : StationNo) (s : State) : (takeArrival n s).freeThreshold = s.freeThreshold := by
  rcases takeArrival_cases n s with h | ⟨t, o, -, -, h⟩ | ⟨t, o, -, h⟩ <;> simp [h]
@[simp] theorem takeArrival_profiles (n : StationNo) (s : State) : (takeArrival n s).profiles = s.profiles := by
  rcases takeArrival_cases n s with h | ⟨t, o, -, -, h⟩ | ⟨t, o, -, h⟩ <;> simp [h]
@[simp] theorem takeArrival_laneAlert (n : StationNo) (s : State) : (takeArrival n s).laneAlert = s.laneAlert := by
  rcases takeArrival_cases n s with h | ⟨t, o, -, -, h⟩ | ⟨t, o, -, h⟩ <;> simp [h]
@[simp] theorem takeArrival_haltEntered (n : StationNo) (s : State) : (takeArrival n s).haltEntered = s.haltEntered := by
  rcases takeArrival_cases n s with h | ⟨t, o, -, -, h⟩ | ⟨t, o, -, h⟩ <;> simp [h]
@[simp] theorem takeArrival_freeLow (n : StationNo) (s : State) : (takeArrival n s).freeLow = s.freeLow := by
  rcases takeArrival_cases n s with h | ⟨t, o, -, -, h⟩ | ⟨t, o, -, h⟩ <;> simp [h]
@[simp] theorem takeArrival_enables (n : StationNo) (s : State) : (takeArrival n s).enables = s.enables := by
  rcases takeArrival_cases n s with h | ⟨t, o, -, -, h⟩ | ⟨t, o, -, h⟩ <;> simp [h]
@[simp] theorem takeArrival_cmd (n : StationNo) (s : State) : (takeArrival n s).cmd = s.cmd := by
  rcases takeArrival_cases n s with h | ⟨t, o, -, -, h⟩ | ⟨t, o, -, h⟩ <;> simp [h]
@[simp] theorem takeArrival_result (n : StationNo) (s : State) : (takeArrival n s).result = s.result := by
  rcases takeArrival_cases n s with h | ⟨t, o, -, -, h⟩ | ⟨t, o, -, h⟩ <;> simp [h]
@[simp] theorem takeArrival_params (n : StationNo) (s : State) : (takeArrival n s).params = s.params := by
  rcases takeArrival_cases n s with h | ⟨t, o, -, -, h⟩ | ⟨t, o, -, h⟩ <;> simp [h]
@[simp] theorem takeArrival_reply (n : StationNo) (s : State) : (takeArrival n s).reply = s.reply := by
  rcases takeArrival_cases n s with h | ⟨t, o, -, -, h⟩ | ⟨t, o, -, h⟩ <;> simp [h]
@[simp] theorem takeArrival_readData (n : StationNo) (s : State) : (takeArrival n s).readData = s.readData := by
  rcases takeArrival_cases n s with h | ⟨t, o, -, -, h⟩ | ⟨t, o, -, h⟩ <;> simp [h]

/-! ### What takeRecoveryEnd leaves unchanged -/

@[simp] theorem takeRecoveryEnd_pending (n : StationNo) (s : State) : (takeRecoveryEnd n s).pending = s.pending := by
  unfold takeRecoveryEnd; split <;> try split
  all_goals rfl
@[simp] theorem takeRecoveryEnd_inReset (n : StationNo) (s : State) : (takeRecoveryEnd n s).inReset = s.inReset := by
  unfold takeRecoveryEnd; split <;> try split
  all_goals rfl
@[simp] theorem takeRecoveryEnd_timebase (n : StationNo) (s : State) : (takeRecoveryEnd n s).timebase = s.timebase := by
  unfold takeRecoveryEnd; split <;> try split
  all_goals rfl
@[simp] theorem takeRecoveryEnd_divCount (n : StationNo) (s : State) : (takeRecoveryEnd n s).divCount = s.divCount := by
  unfold takeRecoveryEnd; split <;> try split
  all_goals rfl
@[simp] theorem takeRecoveryEnd_p (n : StationNo) (s : State) : (takeRecoveryEnd n s).p = s.p := by
  unfold takeRecoveryEnd; split <;> try split
  all_goals rfl
@[simp] theorem takeRecoveryEnd_k (n : StationNo) (s : State) : (takeRecoveryEnd n s).k = s.k := by
  unfold takeRecoveryEnd; split <;> try split
  all_goals rfl
@[simp] theorem takeRecoveryEnd_encFilter (n : StationNo) (s : State) : (takeRecoveryEnd n s).encFilter = s.encFilter := by
  unfold takeRecoveryEnd; split <;> try split
  all_goals rfl
@[simp] theorem takeRecoveryEnd_advanceDue (n : StationNo) (s : State) : (takeRecoveryEnd n s).advanceDue = s.advanceDue := by
  unfold takeRecoveryEnd; split <;> try split
  all_goals rfl
@[simp] theorem takeRecoveryEnd_latchMid (n : StationNo) (s : State) : (takeRecoveryEnd n s).latchMid = s.latchMid := by
  unfold takeRecoveryEnd; split <;> try split
  all_goals rfl
@[simp] theorem takeRecoveryEnd_latchHigh (n : StationNo) (s : State) : (takeRecoveryEnd n s).latchHigh = s.latchHigh := by
  unfold takeRecoveryEnd; split <;> try split
  all_goals rfl
@[simp] theorem takeRecoveryEnd_run (n : StationNo) (s : State) : (takeRecoveryEnd n s).run = s.run := by
  unfold takeRecoveryEnd; split <;> try split
  all_goals rfl
@[simp] theorem takeRecoveryEnd_haltCause (n : StationNo) (s : State) : (takeRecoveryEnd n s).haltCause = s.haltCause := by
  unfold takeRecoveryEnd; split <;> try split
  all_goals rfl
@[simp] theorem takeRecoveryEnd_xstopFilter (n : StationNo) (s : State) : (takeRecoveryEnd n s).xstopFilter = s.xstopFilter := by
  unfold takeRecoveryEnd; split <;> try split
  all_goals rfl
@[simp] theorem takeRecoveryEnd_xstopEdge (n : StationNo) (s : State) : (takeRecoveryEnd n s).xstopEdge = s.xstopEdge := by
  unfold takeRecoveryEnd; split <;> try split
  all_goals rfl
@[simp] theorem takeRecoveryEnd_lanes (n : StationNo) (s : State) : (takeRecoveryEnd n s).lanes = s.lanes := by
  unfold takeRecoveryEnd; split <;> try split
  all_goals rfl
@[simp] theorem takeRecoveryEnd_items (n : StationNo) (s : State) : (takeRecoveryEnd n s).items = s.items := by
  unfold takeRecoveryEnd; split <;> try split
  all_goals rfl
@[simp] theorem takeRecoveryEnd_announce (n : StationNo) (s : State) : (takeRecoveryEnd n s).announce = s.announce := by
  unfold takeRecoveryEnd; split <;> try split
  all_goals rfl
@[simp] theorem takeRecoveryEnd_tc (n : StationNo) (s : State) : (takeRecoveryEnd n s).tc = s.tc := by
  unfold takeRecoveryEnd; split <;> try split
  all_goals rfl
@[simp] theorem takeRecoveryEnd_freeThreshold (n : StationNo) (s : State) : (takeRecoveryEnd n s).freeThreshold = s.freeThreshold := by
  unfold takeRecoveryEnd; split <;> try split
  all_goals rfl
@[simp] theorem takeRecoveryEnd_profiles (n : StationNo) (s : State) : (takeRecoveryEnd n s).profiles = s.profiles := by
  unfold takeRecoveryEnd; split <;> try split
  all_goals rfl
@[simp] theorem takeRecoveryEnd_queue (n : StationNo) (s : State) : (takeRecoveryEnd n s).queue = s.queue := by
  unfold takeRecoveryEnd; split <;> try split
  all_goals rfl
@[simp] theorem takeRecoveryEnd_backlog (n : StationNo) (s : State) : (takeRecoveryEnd n s).backlog = s.backlog := by
  unfold takeRecoveryEnd; split <;> try split
  all_goals rfl
@[simp] theorem takeRecoveryEnd_laneAlert (n : StationNo) (s : State) : (takeRecoveryEnd n s).laneAlert = s.laneAlert := by
  unfold takeRecoveryEnd; split <;> try split
  all_goals rfl
@[simp] theorem takeRecoveryEnd_haltEntered (n : StationNo) (s : State) : (takeRecoveryEnd n s).haltEntered = s.haltEntered := by
  unfold takeRecoveryEnd; split <;> try split
  all_goals rfl
@[simp] theorem takeRecoveryEnd_drainDone (n : StationNo) (s : State) : (takeRecoveryEnd n s).drainDone = s.drainDone := by
  unfold takeRecoveryEnd; split <;> try split
  all_goals rfl
@[simp] theorem takeRecoveryEnd_freeLow (n : StationNo) (s : State) : (takeRecoveryEnd n s).freeLow = s.freeLow := by
  unfold takeRecoveryEnd; split <;> try split
  all_goals rfl
@[simp] theorem takeRecoveryEnd_backlogFlag (n : StationNo) (s : State) : (takeRecoveryEnd n s).backlogFlag = s.backlogFlag := by
  unfold takeRecoveryEnd; split <;> try split
  all_goals rfl
@[simp] theorem takeRecoveryEnd_enables (n : StationNo) (s : State) : (takeRecoveryEnd n s).enables = s.enables := by
  unfold takeRecoveryEnd; split <;> try split
  all_goals rfl
@[simp] theorem takeRecoveryEnd_cmd (n : StationNo) (s : State) : (takeRecoveryEnd n s).cmd = s.cmd := by
  unfold takeRecoveryEnd; split <;> try split
  all_goals rfl
@[simp] theorem takeRecoveryEnd_result (n : StationNo) (s : State) : (takeRecoveryEnd n s).result = s.result := by
  unfold takeRecoveryEnd; split <;> try split
  all_goals rfl
@[simp] theorem takeRecoveryEnd_params (n : StationNo) (s : State) : (takeRecoveryEnd n s).params = s.params := by
  unfold takeRecoveryEnd; split <;> try split
  all_goals rfl
@[simp] theorem takeRecoveryEnd_reply (n : StationNo) (s : State) : (takeRecoveryEnd n s).reply = s.reply := by
  unfold takeRecoveryEnd; split <;> try split
  all_goals rfl
@[simp] theorem takeRecoveryEnd_readData (n : StationNo) (s : State) : (takeRecoveryEnd n s).readData = s.readData := by
  unfold takeRecoveryEnd; split <;> try split
  all_goals rfl

/-! ### The lanes (chapter 3) -/

/-- A lead edge is taken only in CLEAR in RUN: an allocation, or a missed item. -/
theorem takeLead_cases (l : LaneNo) (s : State) :
    takeLead l s = s ∨ ((s.lane l).state = .clear ∧ s.run = .run) := by
  unfold takeLead
  by_cases h : (s.lane l).state = .clear ∧ s.run = .run
  · exact .inr h
  · exact .inl (by simp [h])

/-- A jam is taken exactly when P is at the jam position of a MEASURING lane. -/
theorem takeJam_notDue {l : LaneNo} {s : State} (h : s.jamDue l = none) : takeJam l s = s := by simp [takeJam, h]

/-! ### What takeJam leaves unchanged -/

@[simp] theorem takeJam_pending (l : LaneNo) (s : State) : (takeJam l s).pending = s.pending := by
  unfold takeJam; split <;> simp
@[simp] theorem takeJam_inReset (l : LaneNo) (s : State) : (takeJam l s).inReset = s.inReset := by
  unfold takeJam; split <;> simp
@[simp] theorem takeJam_timebase (l : LaneNo) (s : State) : (takeJam l s).timebase = s.timebase := by
  unfold takeJam; split <;> simp
@[simp] theorem takeJam_divCount (l : LaneNo) (s : State) : (takeJam l s).divCount = s.divCount := by
  unfold takeJam; split <;> simp
@[simp] theorem takeJam_p (l : LaneNo) (s : State) : (takeJam l s).p = s.p := by
  unfold takeJam; split <;> simp
@[simp] theorem takeJam_k (l : LaneNo) (s : State) : (takeJam l s).k = s.k := by
  unfold takeJam; split <;> simp
@[simp] theorem takeJam_encFilter (l : LaneNo) (s : State) : (takeJam l s).encFilter = s.encFilter := by
  unfold takeJam; split <;> simp
@[simp] theorem takeJam_latchMid (l : LaneNo) (s : State) : (takeJam l s).latchMid = s.latchMid := by
  unfold takeJam; split <;> simp
@[simp] theorem takeJam_latchHigh (l : LaneNo) (s : State) : (takeJam l s).latchHigh = s.latchHigh := by
  unfold takeJam; split <;> simp
@[simp] theorem takeJam_haltCause (l : LaneNo) (s : State) : (takeJam l s).haltCause = s.haltCause := by
  unfold takeJam; split <;> simp
@[simp] theorem takeJam_xstopFilter (l : LaneNo) (s : State) : (takeJam l s).xstopFilter = s.xstopFilter := by
  unfold takeJam; split <;> simp
@[simp] theorem takeJam_xstopEdge (l : LaneNo) (s : State) : (takeJam l s).xstopEdge = s.xstopEdge := by
  unfold takeJam; split <;> simp
@[simp] theorem takeJam_tc (l : LaneNo) (s : State) : (takeJam l s).tc = s.tc := by
  unfold takeJam; split <;> simp
@[simp] theorem takeJam_freeThreshold (l : LaneNo) (s : State) : (takeJam l s).freeThreshold = s.freeThreshold := by
  unfold takeJam; split <;> simp
@[simp] theorem takeJam_profiles (l : LaneNo) (s : State) : (takeJam l s).profiles = s.profiles := by
  unfold takeJam; split <;> simp
@[simp] theorem takeJam_haltEntered (l : LaneNo) (s : State) : (takeJam l s).haltEntered = s.haltEntered := by
  unfold takeJam; split <;> simp
@[simp] theorem takeJam_freeLow (l : LaneNo) (s : State) : (takeJam l s).freeLow = s.freeLow := by
  unfold takeJam; split <;> simp
@[simp] theorem takeJam_enables (l : LaneNo) (s : State) : (takeJam l s).enables = s.enables := by
  unfold takeJam; split <;> simp
@[simp] theorem takeJam_cmd (l : LaneNo) (s : State) : (takeJam l s).cmd = s.cmd := by
  unfold takeJam; split <;> simp
@[simp] theorem takeJam_result (l : LaneNo) (s : State) : (takeJam l s).result = s.result := by
  unfold takeJam; split <;> simp
@[simp] theorem takeJam_params (l : LaneNo) (s : State) : (takeJam l s).params = s.params := by
  unfold takeJam; split <;> simp
@[simp] theorem takeJam_reply (l : LaneNo) (s : State) : (takeJam l s).reply = s.reply := by
  unfold takeJam; split <;> simp
@[simp] theorem takeJam_readData (l : LaneNo) (s : State) : (takeJam l s).readData = s.readData := by
  unfold takeJam; split <;> simp

/-! ### The deadline (R58 to R60) -/

/-! ### What defaultEject leaves unchanged -/

@[simp] theorem defaultEject_pending (r : ItemRecord) (s : State) : (defaultEject r s).pending = s.pending := by
  unfold defaultEject; simp only; split
  · simp
  · split
    · simp
    · split <;> simp
@[simp] theorem defaultEject_inReset (r : ItemRecord) (s : State) : (defaultEject r s).inReset = s.inReset := by
  unfold defaultEject; simp only; split
  · simp
  · split
    · simp
    · split <;> simp
@[simp] theorem defaultEject_timebase (r : ItemRecord) (s : State) : (defaultEject r s).timebase = s.timebase := by
  unfold defaultEject; simp only; split
  · simp
  · split
    · simp
    · split <;> simp
@[simp] theorem defaultEject_divCount (r : ItemRecord) (s : State) : (defaultEject r s).divCount = s.divCount := by
  unfold defaultEject; simp only; split
  · simp
  · split
    · simp
    · split <;> simp
@[simp] theorem defaultEject_p (r : ItemRecord) (s : State) : (defaultEject r s).p = s.p := by
  unfold defaultEject; simp only; split
  · simp
  · split
    · simp
    · split <;> simp
@[simp] theorem defaultEject_k (r : ItemRecord) (s : State) : (defaultEject r s).k = s.k := by
  unfold defaultEject; simp only; split
  · simp
  · split
    · simp
    · split <;> simp
@[simp] theorem defaultEject_encFilter (r : ItemRecord) (s : State) : (defaultEject r s).encFilter = s.encFilter := by
  unfold defaultEject; simp only; split
  · simp
  · split
    · simp
    · split <;> simp
@[simp] theorem defaultEject_latchMid (r : ItemRecord) (s : State) : (defaultEject r s).latchMid = s.latchMid := by
  unfold defaultEject; simp only; split
  · simp
  · split
    · simp
    · split <;> simp
@[simp] theorem defaultEject_latchHigh (r : ItemRecord) (s : State) : (defaultEject r s).latchHigh = s.latchHigh := by
  unfold defaultEject; simp only; split
  · simp
  · split
    · simp
    · split <;> simp
@[simp] theorem defaultEject_haltCause (r : ItemRecord) (s : State) : (defaultEject r s).haltCause = s.haltCause := by
  unfold defaultEject; simp only; split
  · simp
  · split
    · simp
    · split <;> simp
@[simp] theorem defaultEject_xstopFilter (r : ItemRecord) (s : State) : (defaultEject r s).xstopFilter = s.xstopFilter := by
  unfold defaultEject; simp only; split
  · simp
  · split
    · simp
    · split <;> simp
@[simp] theorem defaultEject_xstopEdge (r : ItemRecord) (s : State) : (defaultEject r s).xstopEdge = s.xstopEdge := by
  unfold defaultEject; simp only; split
  · simp
  · split
    · simp
    · split <;> simp
@[simp] theorem defaultEject_tc (r : ItemRecord) (s : State) : (defaultEject r s).tc = s.tc := by
  unfold defaultEject; simp only; split
  · simp
  · split
    · simp
    · split <;> simp
@[simp] theorem defaultEject_freeThreshold (r : ItemRecord) (s : State) : (defaultEject r s).freeThreshold = s.freeThreshold := by
  unfold defaultEject; simp only; split
  · simp
  · split
    · simp
    · split <;> simp
@[simp] theorem defaultEject_profiles (r : ItemRecord) (s : State) : (defaultEject r s).profiles = s.profiles := by
  unfold defaultEject; simp only; split
  · simp
  · split
    · simp
    · split <;> simp
@[simp] theorem defaultEject_laneAlert (r : ItemRecord) (s : State) : (defaultEject r s).laneAlert = s.laneAlert := by
  unfold defaultEject; simp only; split
  · simp
  · split
    · simp
    · split <;> simp
@[simp] theorem defaultEject_haltEntered (r : ItemRecord) (s : State) : (defaultEject r s).haltEntered = s.haltEntered := by
  unfold defaultEject; simp only; split
  · simp
  · split
    · simp
    · split <;> simp
@[simp] theorem defaultEject_freeLow (r : ItemRecord) (s : State) : (defaultEject r s).freeLow = s.freeLow := by
  unfold defaultEject; simp only; split
  · simp
  · split
    · simp
    · split <;> simp
@[simp] theorem defaultEject_enables (r : ItemRecord) (s : State) : (defaultEject r s).enables = s.enables := by
  unfold defaultEject; simp only; split
  · simp
  · split
    · simp
    · split <;> simp
@[simp] theorem defaultEject_cmd (r : ItemRecord) (s : State) : (defaultEject r s).cmd = s.cmd := by
  unfold defaultEject; simp only; split
  · simp
  · split
    · simp
    · split <;> simp
@[simp] theorem defaultEject_result (r : ItemRecord) (s : State) : (defaultEject r s).result = s.result := by
  unfold defaultEject; simp only; split
  · simp
  · split
    · simp
    · split <;> simp
@[simp] theorem defaultEject_params (r : ItemRecord) (s : State) : (defaultEject r s).params = s.params := by
  unfold defaultEject; simp only; split
  · simp
  · split
    · simp
    · split <;> simp
@[simp] theorem defaultEject_reply (r : ItemRecord) (s : State) : (defaultEject r s).reply = s.reply := by
  unfold defaultEject; simp only; split
  · simp
  · split
    · simp
    · split <;> simp
@[simp] theorem defaultEject_readData (r : ItemRecord) (s : State) : (defaultEject r s).readData = s.readData := by
  unfold defaultEject; simp only; split
  · simp
  · split
    · simp
    · split <;> simp

/-! ### What takeDeadline leaves unchanged -/

@[simp] theorem takeDeadline_pending (t : Byte) (s : State) : (takeDeadline t s).pending = s.pending := by
  unfold takeDeadline; split
  · rfl
  · split
    · split <;> simp
    · rfl
@[simp] theorem takeDeadline_inReset (t : Byte) (s : State) : (takeDeadline t s).inReset = s.inReset := by
  unfold takeDeadline; split
  · rfl
  · split
    · split <;> simp
    · rfl
@[simp] theorem takeDeadline_timebase (t : Byte) (s : State) : (takeDeadline t s).timebase = s.timebase := by
  unfold takeDeadline; split
  · rfl
  · split
    · split <;> simp
    · rfl
@[simp] theorem takeDeadline_divCount (t : Byte) (s : State) : (takeDeadline t s).divCount = s.divCount := by
  unfold takeDeadline; split
  · rfl
  · split
    · split <;> simp
    · rfl
@[simp] theorem takeDeadline_p (t : Byte) (s : State) : (takeDeadline t s).p = s.p := by
  unfold takeDeadline; split
  · rfl
  · split
    · split <;> simp
    · rfl
@[simp] theorem takeDeadline_k (t : Byte) (s : State) : (takeDeadline t s).k = s.k := by
  unfold takeDeadline; split
  · rfl
  · split
    · split <;> simp
    · rfl
@[simp] theorem takeDeadline_encFilter (t : Byte) (s : State) : (takeDeadline t s).encFilter = s.encFilter := by
  unfold takeDeadline; split
  · rfl
  · split
    · split <;> simp
    · rfl
@[simp] theorem takeDeadline_latchMid (t : Byte) (s : State) : (takeDeadline t s).latchMid = s.latchMid := by
  unfold takeDeadline; split
  · rfl
  · split
    · split <;> simp
    · rfl
@[simp] theorem takeDeadline_latchHigh (t : Byte) (s : State) : (takeDeadline t s).latchHigh = s.latchHigh := by
  unfold takeDeadline; split
  · rfl
  · split
    · split <;> simp
    · rfl
@[simp] theorem takeDeadline_haltCause (t : Byte) (s : State) : (takeDeadline t s).haltCause = s.haltCause := by
  unfold takeDeadline; split
  · rfl
  · split
    · split <;> simp
    · rfl
@[simp] theorem takeDeadline_xstopFilter (t : Byte) (s : State) : (takeDeadline t s).xstopFilter = s.xstopFilter := by
  unfold takeDeadline; split
  · rfl
  · split
    · split <;> simp
    · rfl
@[simp] theorem takeDeadline_xstopEdge (t : Byte) (s : State) : (takeDeadline t s).xstopEdge = s.xstopEdge := by
  unfold takeDeadline; split
  · rfl
  · split
    · split <;> simp
    · rfl
@[simp] theorem takeDeadline_tc (t : Byte) (s : State) : (takeDeadline t s).tc = s.tc := by
  unfold takeDeadline; split
  · rfl
  · split
    · split <;> simp
    · rfl
@[simp] theorem takeDeadline_freeThreshold (t : Byte) (s : State) : (takeDeadline t s).freeThreshold = s.freeThreshold := by
  unfold takeDeadline; split
  · rfl
  · split
    · split <;> simp
    · rfl
@[simp] theorem takeDeadline_profiles (t : Byte) (s : State) : (takeDeadline t s).profiles = s.profiles := by
  unfold takeDeadline; split
  · rfl
  · split
    · split <;> simp
    · rfl
@[simp] theorem takeDeadline_laneAlert (t : Byte) (s : State) : (takeDeadline t s).laneAlert = s.laneAlert := by
  unfold takeDeadline; split
  · rfl
  · split
    · split <;> simp
    · rfl
@[simp] theorem takeDeadline_haltEntered (t : Byte) (s : State) : (takeDeadline t s).haltEntered = s.haltEntered := by
  unfold takeDeadline; split
  · rfl
  · split
    · split <;> simp
    · rfl
@[simp] theorem takeDeadline_freeLow (t : Byte) (s : State) : (takeDeadline t s).freeLow = s.freeLow := by
  unfold takeDeadline; split
  · rfl
  · split
    · split <;> simp
    · rfl
@[simp] theorem takeDeadline_enables (t : Byte) (s : State) : (takeDeadline t s).enables = s.enables := by
  unfold takeDeadline; split
  · rfl
  · split
    · split <;> simp
    · rfl
@[simp] theorem takeDeadline_cmd (t : Byte) (s : State) : (takeDeadline t s).cmd = s.cmd := by
  unfold takeDeadline; split
  · rfl
  · split
    · split <;> simp
    · rfl
@[simp] theorem takeDeadline_result (t : Byte) (s : State) : (takeDeadline t s).result = s.result := by
  unfold takeDeadline; split
  · rfl
  · split
    · split <;> simp
    · rfl
@[simp] theorem takeDeadline_params (t : Byte) (s : State) : (takeDeadline t s).params = s.params := by
  unfold takeDeadline; split
  · rfl
  · split
    · split <;> simp
    · rfl
@[simp] theorem takeDeadline_reply (t : Byte) (s : State) : (takeDeadline t s).reply = s.reply := by
  unfold takeDeadline; split
  · rfl
  · split
    · split <;> simp
    · rfl
@[simp] theorem takeDeadline_readData (t : Byte) (s : State) : (takeDeadline t s).readData = s.readData := by
  unfold takeDeadline; split
  · rfl
  · split
    · split <;> simp
    · rfl

/-! ### The promotion (R71, R142) -/

/-- A promotion does nothing while the backlog is empty or the queue full. -/
theorem promote_none {s : State} (h : s.backlog = [] ∨ 16 ≤ s.queue.length) : promote s = s := by
  unfold promote
  split
  · rfl
  · rename_i t rest hb
    rcases h with h | h
    · simp [h] at hb
    · rw [if_neg (by simp only [Config.queueDepth]; omega)]

/-! ### What promote leaves unchanged -/

@[simp] theorem promote_pending (s : State) : (promote s).pending = s.pending := by
  unfold promote; split
  · rfl
  · split
    · split <;> rfl
    · rfl
@[simp] theorem promote_inReset (s : State) : (promote s).inReset = s.inReset := by
  unfold promote; split
  · rfl
  · split
    · split <;> rfl
    · rfl
@[simp] theorem promote_timebase (s : State) : (promote s).timebase = s.timebase := by
  unfold promote; split
  · rfl
  · split
    · split <;> rfl
    · rfl
@[simp] theorem promote_divCount (s : State) : (promote s).divCount = s.divCount := by
  unfold promote; split
  · rfl
  · split
    · split <;> rfl
    · rfl
@[simp] theorem promote_p (s : State) : (promote s).p = s.p := by
  unfold promote; split
  · rfl
  · split
    · split <;> rfl
    · rfl
@[simp] theorem promote_k (s : State) : (promote s).k = s.k := by
  unfold promote; split
  · rfl
  · split
    · split <;> rfl
    · rfl
@[simp] theorem promote_encFilter (s : State) : (promote s).encFilter = s.encFilter := by
  unfold promote; split
  · rfl
  · split
    · split <;> rfl
    · rfl
@[simp] theorem promote_advanceDue (s : State) : (promote s).advanceDue = s.advanceDue := by
  unfold promote; split
  · rfl
  · split
    · split <;> rfl
    · rfl
@[simp] theorem promote_latchMid (s : State) : (promote s).latchMid = s.latchMid := by
  unfold promote; split
  · rfl
  · split
    · split <;> rfl
    · rfl
@[simp] theorem promote_latchHigh (s : State) : (promote s).latchHigh = s.latchHigh := by
  unfold promote; split
  · rfl
  · split
    · split <;> rfl
    · rfl
@[simp] theorem promote_run (s : State) : (promote s).run = s.run := by
  unfold promote; split
  · rfl
  · split
    · split <;> rfl
    · rfl
@[simp] theorem promote_haltCause (s : State) : (promote s).haltCause = s.haltCause := by
  unfold promote; split
  · rfl
  · split
    · split <;> rfl
    · rfl
@[simp] theorem promote_xstopFilter (s : State) : (promote s).xstopFilter = s.xstopFilter := by
  unfold promote; split
  · rfl
  · split
    · split <;> rfl
    · rfl
@[simp] theorem promote_xstopEdge (s : State) : (promote s).xstopEdge = s.xstopEdge := by
  unfold promote; split
  · rfl
  · split
    · split <;> rfl
    · rfl
@[simp] theorem promote_lanes (s : State) : (promote s).lanes = s.lanes := by
  unfold promote; split
  · rfl
  · split
    · split <;> rfl
    · rfl
@[simp] theorem promote_announce (s : State) : (promote s).announce = s.announce := by
  unfold promote; split
  · rfl
  · split
    · split <;> rfl
    · rfl
@[simp] theorem promote_tc (s : State) : (promote s).tc = s.tc := by
  unfold promote; split
  · rfl
  · split
    · split <;> rfl
    · rfl
@[simp] theorem promote_freeThreshold (s : State) : (promote s).freeThreshold = s.freeThreshold := by
  unfold promote; split
  · rfl
  · split
    · split <;> rfl
    · rfl
@[simp] theorem promote_stations (s : State) : (promote s).stations = s.stations := by
  unfold promote; split
  · rfl
  · split
    · split <;> rfl
    · rfl
@[simp] theorem promote_profiles (s : State) : (promote s).profiles = s.profiles := by
  unfold promote; split
  · rfl
  · split
    · split <;> rfl
    · rfl
@[simp] theorem promote_laneAlert (s : State) : (promote s).laneAlert = s.laneAlert := by
  unfold promote; split
  · rfl
  · split
    · split <;> rfl
    · rfl
@[simp] theorem promote_haltEntered (s : State) : (promote s).haltEntered = s.haltEntered := by
  unfold promote; split
  · rfl
  · split
    · split <;> rfl
    · rfl
@[simp] theorem promote_drainDone (s : State) : (promote s).drainDone = s.drainDone := by
  unfold promote; split
  · rfl
  · split
    · split <;> rfl
    · rfl
@[simp] theorem promote_freeLow (s : State) : (promote s).freeLow = s.freeLow := by
  unfold promote; split
  · rfl
  · split
    · split <;> rfl
    · rfl
@[simp] theorem promote_backlogFlag (s : State) : (promote s).backlogFlag = s.backlogFlag := by
  unfold promote; split
  · rfl
  · split
    · split <;> rfl
    · rfl
@[simp] theorem promote_enables (s : State) : (promote s).enables = s.enables := by
  unfold promote; split
  · rfl
  · split
    · split <;> rfl
    · rfl
@[simp] theorem promote_cmd (s : State) : (promote s).cmd = s.cmd := by
  unfold promote; split
  · rfl
  · split
    · split <;> rfl
    · rfl
@[simp] theorem promote_result (s : State) : (promote s).result = s.result := by
  unfold promote; split
  · rfl
  · split
    · split <;> rfl
    · rfl
@[simp] theorem promote_params (s : State) : (promote s).params = s.params := by
  unfold promote; split
  · rfl
  · split
    · split <;> rfl
    · rfl
@[simp] theorem promote_reply (s : State) : (promote s).reply = s.reply := by
  unfold promote; split
  · rfl
  · split
    · split <;> rfl
    · rfl
@[simp] theorem promote_readData (s : State) : (promote s).readData = s.readData := by
  unfold promote; split
  · rfl
  · split
    · split <;> rfl
    · rfl

/-! ### Settling what is due -/

/-- What every taking keeps, settling the reached positions keeps. -/
theorem settleReached_keeps {α : Type} (g : State → α) (h1 : ∀ n s, g (takeGuardMark n s) = g s)
    (h2 : ∀ n s, g (takeOffPosition n s) = g s) (h3 : ∀ n s, g (takeArrival n s) = g s)
    (h4 : ∀ l s, g (takeJam l s) = g s) (h5 : ∀ t s, g (takeDeadline t s) = g s) (s : State) :
    g (settleReached s) = g s := by
  simp only [settleReached, settleDeadlines, forLanes, forStations]
  rw [foldl_keeps g _ (fun a t => h5 t a), foldl_keeps g _ (fun a l => h4 l a), foldl_keeps g _ (fun a n => h3 n a),
    foldl_keeps g _ (fun a n => h2 n a), foldl_keeps g _ (fun a n => h1 n a)]

/-- What every engine end keeps, settling the engines keeps. -/
theorem settleEngines_keeps {α : Type} (g : State → α) (h1 : ∀ n s, g (takeTimePulseEnd n s) = g s)
    (h2 : ∀ n s, g (takeMaxOnCut n s) = g s) (h3 : ∀ n s, g (takeRecoveryEnd n s) = g s) (s : State) :
    g (settleEngines s) = g s := by
  simp only [settleEngines, forStations]
  rw [foldl_keeps g _ (fun a n => h3 n a), foldl_keeps g _ (fun a n => h2 n a), foldl_keeps g _ (fun a n => h1 n a)]

/-! ### What settleReached leaves unchanged -/

@[simp] theorem settleReached_pending (s : State) : (settleReached s).pending = s.pending := 
  settleReached_keeps State.pending (by simp) (by simp) (by simp) (by simp) (by simp) s
@[simp] theorem settleReached_inReset (s : State) : (settleReached s).inReset = s.inReset := 
  settleReached_keeps State.inReset (by simp) (by simp) (by simp) (by simp) (by simp) s
@[simp] theorem settleReached_timebase (s : State) : (settleReached s).timebase = s.timebase := 
  settleReached_keeps State.timebase (by simp) (by simp) (by simp) (by simp) (by simp) s
@[simp] theorem settleReached_divCount (s : State) : (settleReached s).divCount = s.divCount := 
  settleReached_keeps State.divCount (by simp) (by simp) (by simp) (by simp) (by simp) s
@[simp] theorem settleReached_p (s : State) : (settleReached s).p = s.p := 
  settleReached_keeps State.p (by simp) (by simp) (by simp) (by simp) (by simp) s
@[simp] theorem settleReached_k (s : State) : (settleReached s).k = s.k := 
  settleReached_keeps State.k (by simp) (by simp) (by simp) (by simp) (by simp) s
@[simp] theorem settleReached_encFilter (s : State) : (settleReached s).encFilter = s.encFilter := 
  settleReached_keeps State.encFilter (by simp) (by simp) (by simp) (by simp) (by simp) s
@[simp] theorem settleReached_latchMid (s : State) : (settleReached s).latchMid = s.latchMid := 
  settleReached_keeps State.latchMid (by simp) (by simp) (by simp) (by simp) (by simp) s
@[simp] theorem settleReached_latchHigh (s : State) : (settleReached s).latchHigh = s.latchHigh := 
  settleReached_keeps State.latchHigh (by simp) (by simp) (by simp) (by simp) (by simp) s
@[simp] theorem settleReached_haltCause (s : State) : (settleReached s).haltCause = s.haltCause := 
  settleReached_keeps State.haltCause (by simp) (by simp) (by simp) (by simp) (by simp) s
@[simp] theorem settleReached_xstopFilter (s : State) : (settleReached s).xstopFilter = s.xstopFilter := 
  settleReached_keeps State.xstopFilter (by simp) (by simp) (by simp) (by simp) (by simp) s
@[simp] theorem settleReached_xstopEdge (s : State) : (settleReached s).xstopEdge = s.xstopEdge := 
  settleReached_keeps State.xstopEdge (by simp) (by simp) (by simp) (by simp) (by simp) s
@[simp] theorem settleReached_tc (s : State) : (settleReached s).tc = s.tc := 
  settleReached_keeps State.tc (by simp) (by simp) (by simp) (by simp) (by simp) s
@[simp] theorem settleReached_freeThreshold (s : State) : (settleReached s).freeThreshold = s.freeThreshold := 
  settleReached_keeps State.freeThreshold (by simp) (by simp) (by simp) (by simp) (by simp) s
@[simp] theorem settleReached_profiles (s : State) : (settleReached s).profiles = s.profiles := 
  settleReached_keeps State.profiles (by simp) (by simp) (by simp) (by simp) (by simp) s
@[simp] theorem settleReached_haltEntered (s : State) : (settleReached s).haltEntered = s.haltEntered := 
  settleReached_keeps State.haltEntered (by simp) (by simp) (by simp) (by simp) (by simp) s
@[simp] theorem settleReached_freeLow (s : State) : (settleReached s).freeLow = s.freeLow := 
  settleReached_keeps State.freeLow (by simp) (by simp) (by simp) (by simp) (by simp) s
@[simp] theorem settleReached_enables (s : State) : (settleReached s).enables = s.enables := 
  settleReached_keeps State.enables (by simp) (by simp) (by simp) (by simp) (by simp) s
@[simp] theorem settleReached_cmd (s : State) : (settleReached s).cmd = s.cmd := 
  settleReached_keeps State.cmd (by simp) (by simp) (by simp) (by simp) (by simp) s
@[simp] theorem settleReached_result (s : State) : (settleReached s).result = s.result := 
  settleReached_keeps State.result (by simp) (by simp) (by simp) (by simp) (by simp) s
@[simp] theorem settleReached_params (s : State) : (settleReached s).params = s.params := 
  settleReached_keeps State.params (by simp) (by simp) (by simp) (by simp) (by simp) s
@[simp] theorem settleReached_reply (s : State) : (settleReached s).reply = s.reply := 
  settleReached_keeps State.reply (by simp) (by simp) (by simp) (by simp) (by simp) s
@[simp] theorem settleReached_readData (s : State) : (settleReached s).readData = s.readData := 
  settleReached_keeps State.readData (by simp) (by simp) (by simp) (by simp) (by simp) s

/-! ### What settleEngines leaves unchanged -/

@[simp] theorem settleEngines_pending (s : State) : (settleEngines s).pending = s.pending := 
  settleEngines_keeps State.pending (by simp) (by simp) (by simp) s
@[simp] theorem settleEngines_inReset (s : State) : (settleEngines s).inReset = s.inReset := 
  settleEngines_keeps State.inReset (by simp) (by simp) (by simp) s
@[simp] theorem settleEngines_timebase (s : State) : (settleEngines s).timebase = s.timebase := 
  settleEngines_keeps State.timebase (by simp) (by simp) (by simp) s
@[simp] theorem settleEngines_divCount (s : State) : (settleEngines s).divCount = s.divCount := 
  settleEngines_keeps State.divCount (by simp) (by simp) (by simp) s
@[simp] theorem settleEngines_p (s : State) : (settleEngines s).p = s.p := 
  settleEngines_keeps State.p (by simp) (by simp) (by simp) s
@[simp] theorem settleEngines_k (s : State) : (settleEngines s).k = s.k := 
  settleEngines_keeps State.k (by simp) (by simp) (by simp) s
@[simp] theorem settleEngines_encFilter (s : State) : (settleEngines s).encFilter = s.encFilter := 
  settleEngines_keeps State.encFilter (by simp) (by simp) (by simp) s
@[simp] theorem settleEngines_latchMid (s : State) : (settleEngines s).latchMid = s.latchMid := 
  settleEngines_keeps State.latchMid (by simp) (by simp) (by simp) s
@[simp] theorem settleEngines_latchHigh (s : State) : (settleEngines s).latchHigh = s.latchHigh := 
  settleEngines_keeps State.latchHigh (by simp) (by simp) (by simp) s
@[simp] theorem settleEngines_haltCause (s : State) : (settleEngines s).haltCause = s.haltCause := 
  settleEngines_keeps State.haltCause (by simp) (by simp) (by simp) s
@[simp] theorem settleEngines_xstopFilter (s : State) : (settleEngines s).xstopFilter = s.xstopFilter := 
  settleEngines_keeps State.xstopFilter (by simp) (by simp) (by simp) s
@[simp] theorem settleEngines_xstopEdge (s : State) : (settleEngines s).xstopEdge = s.xstopEdge := 
  settleEngines_keeps State.xstopEdge (by simp) (by simp) (by simp) s
@[simp] theorem settleEngines_tc (s : State) : (settleEngines s).tc = s.tc := 
  settleEngines_keeps State.tc (by simp) (by simp) (by simp) s
@[simp] theorem settleEngines_freeThreshold (s : State) : (settleEngines s).freeThreshold = s.freeThreshold := 
  settleEngines_keeps State.freeThreshold (by simp) (by simp) (by simp) s
@[simp] theorem settleEngines_profiles (s : State) : (settleEngines s).profiles = s.profiles := 
  settleEngines_keeps State.profiles (by simp) (by simp) (by simp) s
@[simp] theorem settleEngines_laneAlert (s : State) : (settleEngines s).laneAlert = s.laneAlert := 
  settleEngines_keeps State.laneAlert (by simp) (by simp) (by simp) s
@[simp] theorem settleEngines_haltEntered (s : State) : (settleEngines s).haltEntered = s.haltEntered := 
  settleEngines_keeps State.haltEntered (by simp) (by simp) (by simp) s
@[simp] theorem settleEngines_freeLow (s : State) : (settleEngines s).freeLow = s.freeLow := 
  settleEngines_keeps State.freeLow (by simp) (by simp) (by simp) s
@[simp] theorem settleEngines_enables (s : State) : (settleEngines s).enables = s.enables := 
  settleEngines_keeps State.enables (by simp) (by simp) (by simp) s
@[simp] theorem settleEngines_cmd (s : State) : (settleEngines s).cmd = s.cmd := 
  settleEngines_keeps State.cmd (by simp) (by simp) (by simp) s
@[simp] theorem settleEngines_result (s : State) : (settleEngines s).result = s.result := 
  settleEngines_keeps State.result (by simp) (by simp) (by simp) s
@[simp] theorem settleEngines_params (s : State) : (settleEngines s).params = s.params := 
  settleEngines_keeps State.params (by simp) (by simp) (by simp) s
@[simp] theorem settleEngines_reply (s : State) : (settleEngines s).reply = s.reply := 
  settleEngines_keeps State.reply (by simp) (by simp) (by simp) s
@[simp] theorem settleEngines_readData (s : State) : (settleEngines s).readData = s.readData := 
  settleEngines_keeps State.readData (by simp) (by simp) (by simp) s

/-! ### What settleDue leaves unchanged -/

@[simp] theorem settleDue_pending (s : State) : (settleDue s).pending = s.pending := by
  simp [settleDue]
@[simp] theorem settleDue_inReset (s : State) : (settleDue s).inReset = s.inReset := by
  simp [settleDue]
@[simp] theorem settleDue_timebase (s : State) : (settleDue s).timebase = s.timebase := by
  simp [settleDue]
@[simp] theorem settleDue_divCount (s : State) : (settleDue s).divCount = s.divCount := by
  simp [settleDue]
@[simp] theorem settleDue_p (s : State) : (settleDue s).p = s.p := by
  simp [settleDue]
@[simp] theorem settleDue_k (s : State) : (settleDue s).k = s.k := by
  simp [settleDue]
@[simp] theorem settleDue_encFilter (s : State) : (settleDue s).encFilter = s.encFilter := by
  simp [settleDue]
@[simp] theorem settleDue_latchMid (s : State) : (settleDue s).latchMid = s.latchMid := by
  simp [settleDue]
@[simp] theorem settleDue_latchHigh (s : State) : (settleDue s).latchHigh = s.latchHigh := by
  simp [settleDue]
@[simp] theorem settleDue_haltCause (s : State) : (settleDue s).haltCause = s.haltCause := by
  simp [settleDue]
@[simp] theorem settleDue_xstopFilter (s : State) : (settleDue s).xstopFilter = s.xstopFilter := by
  simp [settleDue]
@[simp] theorem settleDue_xstopEdge (s : State) : (settleDue s).xstopEdge = s.xstopEdge := by
  simp [settleDue]
@[simp] theorem settleDue_tc (s : State) : (settleDue s).tc = s.tc := by
  simp [settleDue]
@[simp] theorem settleDue_freeThreshold (s : State) : (settleDue s).freeThreshold = s.freeThreshold := by
  simp [settleDue]
@[simp] theorem settleDue_profiles (s : State) : (settleDue s).profiles = s.profiles := by
  simp [settleDue]
@[simp] theorem settleDue_haltEntered (s : State) : (settleDue s).haltEntered = s.haltEntered := by
  simp [settleDue]
@[simp] theorem settleDue_freeLow (s : State) : (settleDue s).freeLow = s.freeLow := by
  simp [settleDue]
@[simp] theorem settleDue_enables (s : State) : (settleDue s).enables = s.enables := by
  simp [settleDue]
@[simp] theorem settleDue_cmd (s : State) : (settleDue s).cmd = s.cmd := by
  simp [settleDue]
@[simp] theorem settleDue_result (s : State) : (settleDue s).result = s.result := by
  simp [settleDue]
@[simp] theorem settleDue_params (s : State) : (settleDue s).params = s.params := by
  simp [settleDue]
@[simp] theorem settleDue_reply (s : State) : (settleDue s).reply = s.reply := by
  simp [settleDue]
@[simp] theorem settleDue_readData (s : State) : (settleDue s).readData = s.readData := by
  simp [settleDue]

/-! ### The advance, the edges and what comes before an access (log 1) -/

/-- An advance changes P by one, and only in RUN or DRAIN, after the positions reached at the present P. -/
theorem advance_p (s : State) : (advance s).p = s.p ∨ (settleReached s).running = true ∧ (advance s).p = s.p + 1 := by
  unfold advance
  by_cases h : (settleReached s).running = true
  · exact .inr ⟨h, by simp [h]⟩
  · exact .inl (by simp [h])

/-- No advance waits: nothing is taken. -/
theorem takeDueAdvance_none {s : State} (h : s.advanceDue = false) : takeDueAdvance s = s := by simp [takeDueAdvance, h]

/-- The waiting advance is an advance of the state without it, in RUN or DRAIN. -/
theorem takeDueAdvance_due {s : State} (h : s.advanceDue = true) (hr : s.running = true) :
    takeDueAdvance s = advance { s with advanceDue := false } := by simp [takeDueAdvance, h, hr]

/-- No edge waits at the lane: nothing is taken. -/
theorem flushLane_none {l : LaneNo} {s : State} (h : (s.lane l).edge = none) : flushLane l s = s := by simp [flushLane, h]

theorem flushXstop_none {s : State} (h : s.xstopEdge = none) : flushXstop s = s := by simp [flushXstop, h]

theorem edgeStart_waits (s : State) : edgeStart true s = s := by simp [edgeStart]

theorem edgeStart_later (s : State) : edgeStart false s = finishTick s := by simp [edgeStart]

/-! ### What advance leaves unchanged -/

@[simp] theorem advance_pending (s : State) : (advance s).pending = s.pending := by
  unfold advance; simp only; split <;> simp
@[simp] theorem advance_inReset (s : State) : (advance s).inReset = s.inReset := by
  unfold advance; simp only; split <;> simp
@[simp] theorem advance_timebase (s : State) : (advance s).timebase = s.timebase := by
  unfold advance; simp only; split <;> simp
@[simp] theorem advance_divCount (s : State) : (advance s).divCount = s.divCount := by
  unfold advance; simp only; split <;> simp
@[simp] theorem advance_k (s : State) : (advance s).k = s.k := by
  unfold advance; simp only; split <;> simp
@[simp] theorem advance_encFilter (s : State) : (advance s).encFilter = s.encFilter := by
  unfold advance; simp only; split <;> simp
@[simp] theorem advance_latchMid (s : State) : (advance s).latchMid = s.latchMid := by
  unfold advance; simp only; split <;> simp
@[simp] theorem advance_latchHigh (s : State) : (advance s).latchHigh = s.latchHigh := by
  unfold advance; simp only; split <;> simp
@[simp] theorem advance_haltCause (s : State) : (advance s).haltCause = s.haltCause := by
  unfold advance; simp only; split <;> simp
@[simp] theorem advance_xstopFilter (s : State) : (advance s).xstopFilter = s.xstopFilter := by
  unfold advance; simp only; split <;> simp
@[simp] theorem advance_xstopEdge (s : State) : (advance s).xstopEdge = s.xstopEdge := by
  unfold advance; simp only; split <;> simp
@[simp] theorem advance_tc (s : State) : (advance s).tc = s.tc := by
  unfold advance; simp only; split <;> simp
@[simp] theorem advance_freeThreshold (s : State) : (advance s).freeThreshold = s.freeThreshold := by
  unfold advance; simp only; split <;> simp
@[simp] theorem advance_profiles (s : State) : (advance s).profiles = s.profiles := by
  unfold advance; simp only; split <;> simp
@[simp] theorem advance_haltEntered (s : State) : (advance s).haltEntered = s.haltEntered := by
  unfold advance; simp only; split <;> simp
@[simp] theorem advance_freeLow (s : State) : (advance s).freeLow = s.freeLow := by
  unfold advance; simp only; split <;> simp
@[simp] theorem advance_enables (s : State) : (advance s).enables = s.enables := by
  unfold advance; simp only; split <;> simp
@[simp] theorem advance_cmd (s : State) : (advance s).cmd = s.cmd := by
  unfold advance; simp only; split <;> simp
@[simp] theorem advance_result (s : State) : (advance s).result = s.result := by
  unfold advance; simp only; split <;> simp
@[simp] theorem advance_params (s : State) : (advance s).params = s.params := by
  unfold advance; simp only; split <;> simp
@[simp] theorem advance_reply (s : State) : (advance s).reply = s.reply := by
  unfold advance; simp only; split <;> simp
@[simp] theorem advance_readData (s : State) : (advance s).readData = s.readData := by
  unfold advance; simp only; split <;> simp

/-! ### What takeDueAdvance leaves unchanged -/

@[simp] theorem takeDueAdvance_pending (s : State) : (takeDueAdvance s).pending = s.pending := by
  unfold takeDueAdvance; split
  · simp only; split <;> simp
  · rfl
@[simp] theorem takeDueAdvance_inReset (s : State) : (takeDueAdvance s).inReset = s.inReset := by
  unfold takeDueAdvance; split
  · simp only; split <;> simp
  · rfl
@[simp] theorem takeDueAdvance_timebase (s : State) : (takeDueAdvance s).timebase = s.timebase := by
  unfold takeDueAdvance; split
  · simp only; split <;> simp
  · rfl
@[simp] theorem takeDueAdvance_divCount (s : State) : (takeDueAdvance s).divCount = s.divCount := by
  unfold takeDueAdvance; split
  · simp only; split <;> simp
  · rfl
@[simp] theorem takeDueAdvance_k (s : State) : (takeDueAdvance s).k = s.k := by
  unfold takeDueAdvance; split
  · simp only; split <;> simp
  · rfl
@[simp] theorem takeDueAdvance_encFilter (s : State) : (takeDueAdvance s).encFilter = s.encFilter := by
  unfold takeDueAdvance; split
  · simp only; split <;> simp
  · rfl
@[simp] theorem takeDueAdvance_latchMid (s : State) : (takeDueAdvance s).latchMid = s.latchMid := by
  unfold takeDueAdvance; split
  · simp only; split <;> simp
  · rfl
@[simp] theorem takeDueAdvance_latchHigh (s : State) : (takeDueAdvance s).latchHigh = s.latchHigh := by
  unfold takeDueAdvance; split
  · simp only; split <;> simp
  · rfl
@[simp] theorem takeDueAdvance_haltCause (s : State) : (takeDueAdvance s).haltCause = s.haltCause := by
  unfold takeDueAdvance; split
  · simp only; split <;> simp
  · rfl
@[simp] theorem takeDueAdvance_xstopFilter (s : State) : (takeDueAdvance s).xstopFilter = s.xstopFilter := by
  unfold takeDueAdvance; split
  · simp only; split <;> simp
  · rfl
@[simp] theorem takeDueAdvance_xstopEdge (s : State) : (takeDueAdvance s).xstopEdge = s.xstopEdge := by
  unfold takeDueAdvance; split
  · simp only; split <;> simp
  · rfl
@[simp] theorem takeDueAdvance_tc (s : State) : (takeDueAdvance s).tc = s.tc := by
  unfold takeDueAdvance; split
  · simp only; split <;> simp
  · rfl
@[simp] theorem takeDueAdvance_freeThreshold (s : State) : (takeDueAdvance s).freeThreshold = s.freeThreshold := by
  unfold takeDueAdvance; split
  · simp only; split <;> simp
  · rfl
@[simp] theorem takeDueAdvance_profiles (s : State) : (takeDueAdvance s).profiles = s.profiles := by
  unfold takeDueAdvance; split
  · simp only; split <;> simp
  · rfl
@[simp] theorem takeDueAdvance_haltEntered (s : State) : (takeDueAdvance s).haltEntered = s.haltEntered := by
  unfold takeDueAdvance; split
  · simp only; split <;> simp
  · rfl
@[simp] theorem takeDueAdvance_freeLow (s : State) : (takeDueAdvance s).freeLow = s.freeLow := by
  unfold takeDueAdvance; split
  · simp only; split <;> simp
  · rfl
@[simp] theorem takeDueAdvance_enables (s : State) : (takeDueAdvance s).enables = s.enables := by
  unfold takeDueAdvance; split
  · simp only; split <;> simp
  · rfl
@[simp] theorem takeDueAdvance_cmd (s : State) : (takeDueAdvance s).cmd = s.cmd := by
  unfold takeDueAdvance; split
  · simp only; split <;> simp
  · rfl
@[simp] theorem takeDueAdvance_result (s : State) : (takeDueAdvance s).result = s.result := by
  unfold takeDueAdvance; split
  · simp only; split <;> simp
  · rfl
@[simp] theorem takeDueAdvance_params (s : State) : (takeDueAdvance s).params = s.params := by
  unfold takeDueAdvance; split
  · simp only; split <;> simp
  · rfl
@[simp] theorem takeDueAdvance_reply (s : State) : (takeDueAdvance s).reply = s.reply := by
  unfold takeDueAdvance; split
  · simp only; split <;> simp
  · rfl
@[simp] theorem takeDueAdvance_readData (s : State) : (takeDueAdvance s).readData = s.readData := by
  unfold takeDueAdvance; split
  · simp only; split <;> simp
  · rfl

/-! ### What takeLead leaves unchanged -/

@[simp] theorem takeLead_pending (l : LaneNo) (s : State) : (takeLead l s).pending = s.pending := by
  unfold takeLead; simp only; split
  · split <;> rfl
  · rfl
@[simp] theorem takeLead_inReset (l : LaneNo) (s : State) : (takeLead l s).inReset = s.inReset := by
  unfold takeLead; simp only; split
  · split <;> rfl
  · rfl
@[simp] theorem takeLead_timebase (l : LaneNo) (s : State) : (takeLead l s).timebase = s.timebase := by
  unfold takeLead; simp only; split
  · split <;> rfl
  · rfl
@[simp] theorem takeLead_divCount (l : LaneNo) (s : State) : (takeLead l s).divCount = s.divCount := by
  unfold takeLead; simp only; split
  · split <;> rfl
  · rfl
@[simp] theorem takeLead_p (l : LaneNo) (s : State) : (takeLead l s).p = s.p := by
  unfold takeLead; simp only; split
  · split <;> rfl
  · rfl
@[simp] theorem takeLead_k (l : LaneNo) (s : State) : (takeLead l s).k = s.k := by
  unfold takeLead; simp only; split
  · split <;> rfl
  · rfl
@[simp] theorem takeLead_encFilter (l : LaneNo) (s : State) : (takeLead l s).encFilter = s.encFilter := by
  unfold takeLead; simp only; split
  · split <;> rfl
  · rfl
@[simp] theorem takeLead_advanceDue (l : LaneNo) (s : State) : (takeLead l s).advanceDue = s.advanceDue := by
  unfold takeLead; simp only; split
  · split <;> rfl
  · rfl
@[simp] theorem takeLead_latchMid (l : LaneNo) (s : State) : (takeLead l s).latchMid = s.latchMid := by
  unfold takeLead; simp only; split
  · split <;> rfl
  · rfl
@[simp] theorem takeLead_latchHigh (l : LaneNo) (s : State) : (takeLead l s).latchHigh = s.latchHigh := by
  unfold takeLead; simp only; split
  · split <;> rfl
  · rfl
@[simp] theorem takeLead_run (l : LaneNo) (s : State) : (takeLead l s).run = s.run := by
  unfold takeLead; simp only; split
  · split <;> rfl
  · rfl
@[simp] theorem takeLead_haltCause (l : LaneNo) (s : State) : (takeLead l s).haltCause = s.haltCause := by
  unfold takeLead; simp only; split
  · split <;> rfl
  · rfl
@[simp] theorem takeLead_xstopFilter (l : LaneNo) (s : State) : (takeLead l s).xstopFilter = s.xstopFilter := by
  unfold takeLead; simp only; split
  · split <;> rfl
  · rfl
@[simp] theorem takeLead_xstopEdge (l : LaneNo) (s : State) : (takeLead l s).xstopEdge = s.xstopEdge := by
  unfold takeLead; simp only; split
  · split <;> rfl
  · rfl
@[simp] theorem takeLead_announce (l : LaneNo) (s : State) : (takeLead l s).announce = s.announce := by
  unfold takeLead; simp only; split
  · split <;> rfl
  · rfl
@[simp] theorem takeLead_freeThreshold (l : LaneNo) (s : State) : (takeLead l s).freeThreshold = s.freeThreshold := by
  unfold takeLead; simp only; split
  · split <;> rfl
  · rfl
@[simp] theorem takeLead_stations (l : LaneNo) (s : State) : (takeLead l s).stations = s.stations := by
  unfold takeLead; simp only; split
  · split <;> rfl
  · rfl
@[simp] theorem takeLead_profiles (l : LaneNo) (s : State) : (takeLead l s).profiles = s.profiles := by
  unfold takeLead; simp only; split
  · split <;> rfl
  · rfl
@[simp] theorem takeLead_queue (l : LaneNo) (s : State) : (takeLead l s).queue = s.queue := by
  unfold takeLead; simp only; split
  · split <;> rfl
  · rfl
@[simp] theorem takeLead_backlog (l : LaneNo) (s : State) : (takeLead l s).backlog = s.backlog := by
  unfold takeLead; simp only; split
  · split <;> rfl
  · rfl
@[simp] theorem takeLead_haltEntered (l : LaneNo) (s : State) : (takeLead l s).haltEntered = s.haltEntered := by
  unfold takeLead; simp only; split
  · split <;> rfl
  · rfl
@[simp] theorem takeLead_drainDone (l : LaneNo) (s : State) : (takeLead l s).drainDone = s.drainDone := by
  unfold takeLead; simp only; split
  · split <;> rfl
  · rfl
@[simp] theorem takeLead_backlogFlag (l : LaneNo) (s : State) : (takeLead l s).backlogFlag = s.backlogFlag := by
  unfold takeLead; simp only; split
  · split <;> rfl
  · rfl
@[simp] theorem takeLead_enables (l : LaneNo) (s : State) : (takeLead l s).enables = s.enables := by
  unfold takeLead; simp only; split
  · split <;> rfl
  · rfl
@[simp] theorem takeLead_cmd (l : LaneNo) (s : State) : (takeLead l s).cmd = s.cmd := by
  unfold takeLead; simp only; split
  · split <;> rfl
  · rfl
@[simp] theorem takeLead_result (l : LaneNo) (s : State) : (takeLead l s).result = s.result := by
  unfold takeLead; simp only; split
  · split <;> rfl
  · rfl
@[simp] theorem takeLead_params (l : LaneNo) (s : State) : (takeLead l s).params = s.params := by
  unfold takeLead; simp only; split
  · split <;> rfl
  · rfl
@[simp] theorem takeLead_reply (l : LaneNo) (s : State) : (takeLead l s).reply = s.reply := by
  unfold takeLead; simp only; split
  · split <;> rfl
  · rfl
@[simp] theorem takeLead_readData (l : LaneNo) (s : State) : (takeLead l s).readData = s.readData := by
  unfold takeLead; simp only; split
  · split <;> rfl
  · rfl

/-! ### What endMeasurement leaves unchanged -/

@[simp] theorem endMeasurement_pending (l : LaneNo) (t : Byte) (s : State) : (endMeasurement l t s).pending = s.pending := by
  unfold endMeasurement; simp only; split
  · rfl
  · split
    · rfl
    · split <;> simp
@[simp] theorem endMeasurement_inReset (l : LaneNo) (t : Byte) (s : State) : (endMeasurement l t s).inReset = s.inReset := by
  unfold endMeasurement; simp only; split
  · rfl
  · split
    · rfl
    · split <;> simp
@[simp] theorem endMeasurement_timebase (l : LaneNo) (t : Byte) (s : State) : (endMeasurement l t s).timebase = s.timebase := by
  unfold endMeasurement; simp only; split
  · rfl
  · split
    · rfl
    · split <;> simp
@[simp] theorem endMeasurement_divCount (l : LaneNo) (t : Byte) (s : State) : (endMeasurement l t s).divCount = s.divCount := by
  unfold endMeasurement; simp only; split
  · rfl
  · split
    · rfl
    · split <;> simp
@[simp] theorem endMeasurement_p (l : LaneNo) (t : Byte) (s : State) : (endMeasurement l t s).p = s.p := by
  unfold endMeasurement; simp only; split
  · rfl
  · split
    · rfl
    · split <;> simp
@[simp] theorem endMeasurement_k (l : LaneNo) (t : Byte) (s : State) : (endMeasurement l t s).k = s.k := by
  unfold endMeasurement; simp only; split
  · rfl
  · split
    · rfl
    · split <;> simp
@[simp] theorem endMeasurement_encFilter (l : LaneNo) (t : Byte) (s : State) : (endMeasurement l t s).encFilter = s.encFilter := by
  unfold endMeasurement; simp only; split
  · rfl
  · split
    · rfl
    · split <;> simp
@[simp] theorem endMeasurement_latchMid (l : LaneNo) (t : Byte) (s : State) : (endMeasurement l t s).latchMid = s.latchMid := by
  unfold endMeasurement; simp only; split
  · rfl
  · split
    · rfl
    · split <;> simp
@[simp] theorem endMeasurement_latchHigh (l : LaneNo) (t : Byte) (s : State) : (endMeasurement l t s).latchHigh = s.latchHigh := by
  unfold endMeasurement; simp only; split
  · rfl
  · split
    · rfl
    · split <;> simp
@[simp] theorem endMeasurement_haltCause (l : LaneNo) (t : Byte) (s : State) : (endMeasurement l t s).haltCause = s.haltCause := by
  unfold endMeasurement; simp only; split
  · rfl
  · split
    · rfl
    · split <;> simp
@[simp] theorem endMeasurement_xstopFilter (l : LaneNo) (t : Byte) (s : State) : (endMeasurement l t s).xstopFilter = s.xstopFilter := by
  unfold endMeasurement; simp only; split
  · rfl
  · split
    · rfl
    · split <;> simp
@[simp] theorem endMeasurement_xstopEdge (l : LaneNo) (t : Byte) (s : State) : (endMeasurement l t s).xstopEdge = s.xstopEdge := by
  unfold endMeasurement; simp only; split
  · rfl
  · split
    · rfl
    · split <;> simp
@[simp] theorem endMeasurement_tc (l : LaneNo) (t : Byte) (s : State) : (endMeasurement l t s).tc = s.tc := by
  unfold endMeasurement; simp only; split
  · rfl
  · split
    · rfl
    · split <;> simp
@[simp] theorem endMeasurement_freeThreshold (l : LaneNo) (t : Byte) (s : State) : (endMeasurement l t s).freeThreshold = s.freeThreshold := by
  unfold endMeasurement; simp only; split
  · rfl
  · split
    · rfl
    · split <;> simp
@[simp] theorem endMeasurement_profiles (l : LaneNo) (t : Byte) (s : State) : (endMeasurement l t s).profiles = s.profiles := by
  unfold endMeasurement; simp only; split
  · rfl
  · split
    · rfl
    · split <;> simp
@[simp] theorem endMeasurement_laneAlert (l : LaneNo) (t : Byte) (s : State) : (endMeasurement l t s).laneAlert = s.laneAlert := by
  unfold endMeasurement; simp only; split
  · rfl
  · split
    · rfl
    · split <;> simp
@[simp] theorem endMeasurement_haltEntered (l : LaneNo) (t : Byte) (s : State) : (endMeasurement l t s).haltEntered = s.haltEntered := by
  unfold endMeasurement; simp only; split
  · rfl
  · split
    · rfl
    · split <;> simp
@[simp] theorem endMeasurement_freeLow (l : LaneNo) (t : Byte) (s : State) : (endMeasurement l t s).freeLow = s.freeLow := by
  unfold endMeasurement; simp only; split
  · rfl
  · split
    · rfl
    · split <;> simp
@[simp] theorem endMeasurement_enables (l : LaneNo) (t : Byte) (s : State) : (endMeasurement l t s).enables = s.enables := by
  unfold endMeasurement; simp only; split
  · rfl
  · split
    · rfl
    · split <;> simp
@[simp] theorem endMeasurement_cmd (l : LaneNo) (t : Byte) (s : State) : (endMeasurement l t s).cmd = s.cmd := by
  unfold endMeasurement; simp only; split
  · rfl
  · split
    · rfl
    · split <;> simp
@[simp] theorem endMeasurement_result (l : LaneNo) (t : Byte) (s : State) : (endMeasurement l t s).result = s.result := by
  unfold endMeasurement; simp only; split
  · rfl
  · split
    · rfl
    · split <;> simp
@[simp] theorem endMeasurement_params (l : LaneNo) (t : Byte) (s : State) : (endMeasurement l t s).params = s.params := by
  unfold endMeasurement; simp only; split
  · rfl
  · split
    · rfl
    · split <;> simp
@[simp] theorem endMeasurement_reply (l : LaneNo) (t : Byte) (s : State) : (endMeasurement l t s).reply = s.reply := by
  unfold endMeasurement; simp only; split
  · rfl
  · split
    · rfl
    · split <;> simp
@[simp] theorem endMeasurement_readData (l : LaneNo) (t : Byte) (s : State) : (endMeasurement l t s).readData = s.readData := by
  unfold endMeasurement; simp only; split
  · rfl
  · split
    · rfl
    · split <;> simp

/-! ### What takeTrailingNow leaves unchanged -/

@[simp] theorem takeTrailingNow_pending (l : LaneNo) (s : State) : (takeTrailingNow l s).pending = s.pending := by
  unfold takeTrailingNow; simp only; split
  · rfl
  · rfl
  · rfl
  · rfl
  · rfl
  · split <;> simp
@[simp] theorem takeTrailingNow_inReset (l : LaneNo) (s : State) : (takeTrailingNow l s).inReset = s.inReset := by
  unfold takeTrailingNow; simp only; split
  · rfl
  · rfl
  · rfl
  · rfl
  · rfl
  · split <;> simp
@[simp] theorem takeTrailingNow_timebase (l : LaneNo) (s : State) : (takeTrailingNow l s).timebase = s.timebase := by
  unfold takeTrailingNow; simp only; split
  · rfl
  · rfl
  · rfl
  · rfl
  · rfl
  · split <;> simp
@[simp] theorem takeTrailingNow_divCount (l : LaneNo) (s : State) : (takeTrailingNow l s).divCount = s.divCount := by
  unfold takeTrailingNow; simp only; split
  · rfl
  · rfl
  · rfl
  · rfl
  · rfl
  · split <;> simp
@[simp] theorem takeTrailingNow_p (l : LaneNo) (s : State) : (takeTrailingNow l s).p = s.p := by
  unfold takeTrailingNow; simp only; split
  · rfl
  · rfl
  · rfl
  · rfl
  · rfl
  · split <;> simp
@[simp] theorem takeTrailingNow_k (l : LaneNo) (s : State) : (takeTrailingNow l s).k = s.k := by
  unfold takeTrailingNow; simp only; split
  · rfl
  · rfl
  · rfl
  · rfl
  · rfl
  · split <;> simp
@[simp] theorem takeTrailingNow_encFilter (l : LaneNo) (s : State) : (takeTrailingNow l s).encFilter = s.encFilter := by
  unfold takeTrailingNow; simp only; split
  · rfl
  · rfl
  · rfl
  · rfl
  · rfl
  · split <;> simp
@[simp] theorem takeTrailingNow_latchMid (l : LaneNo) (s : State) : (takeTrailingNow l s).latchMid = s.latchMid := by
  unfold takeTrailingNow; simp only; split
  · rfl
  · rfl
  · rfl
  · rfl
  · rfl
  · split <;> simp
@[simp] theorem takeTrailingNow_latchHigh (l : LaneNo) (s : State) : (takeTrailingNow l s).latchHigh = s.latchHigh := by
  unfold takeTrailingNow; simp only; split
  · rfl
  · rfl
  · rfl
  · rfl
  · rfl
  · split <;> simp
@[simp] theorem takeTrailingNow_haltCause (l : LaneNo) (s : State) : (takeTrailingNow l s).haltCause = s.haltCause := by
  unfold takeTrailingNow; simp only; split
  · rfl
  · rfl
  · rfl
  · rfl
  · rfl
  · split <;> simp
@[simp] theorem takeTrailingNow_xstopFilter (l : LaneNo) (s : State) : (takeTrailingNow l s).xstopFilter = s.xstopFilter := by
  unfold takeTrailingNow; simp only; split
  · rfl
  · rfl
  · rfl
  · rfl
  · rfl
  · split <;> simp
@[simp] theorem takeTrailingNow_xstopEdge (l : LaneNo) (s : State) : (takeTrailingNow l s).xstopEdge = s.xstopEdge := by
  unfold takeTrailingNow; simp only; split
  · rfl
  · rfl
  · rfl
  · rfl
  · rfl
  · split <;> simp
@[simp] theorem takeTrailingNow_tc (l : LaneNo) (s : State) : (takeTrailingNow l s).tc = s.tc := by
  unfold takeTrailingNow; simp only; split
  · rfl
  · rfl
  · rfl
  · rfl
  · rfl
  · split <;> simp
@[simp] theorem takeTrailingNow_freeThreshold (l : LaneNo) (s : State) : (takeTrailingNow l s).freeThreshold = s.freeThreshold := by
  unfold takeTrailingNow; simp only; split
  · rfl
  · rfl
  · rfl
  · rfl
  · rfl
  · split <;> simp
@[simp] theorem takeTrailingNow_profiles (l : LaneNo) (s : State) : (takeTrailingNow l s).profiles = s.profiles := by
  unfold takeTrailingNow; simp only; split
  · rfl
  · rfl
  · rfl
  · rfl
  · rfl
  · split <;> simp
@[simp] theorem takeTrailingNow_laneAlert (l : LaneNo) (s : State) : (takeTrailingNow l s).laneAlert = s.laneAlert := by
  unfold takeTrailingNow; simp only; split
  · rfl
  · rfl
  · rfl
  · rfl
  · rfl
  · split <;> simp
@[simp] theorem takeTrailingNow_haltEntered (l : LaneNo) (s : State) : (takeTrailingNow l s).haltEntered = s.haltEntered := by
  unfold takeTrailingNow; simp only; split
  · rfl
  · rfl
  · rfl
  · rfl
  · rfl
  · split <;> simp
@[simp] theorem takeTrailingNow_freeLow (l : LaneNo) (s : State) : (takeTrailingNow l s).freeLow = s.freeLow := by
  unfold takeTrailingNow; simp only; split
  · rfl
  · rfl
  · rfl
  · rfl
  · rfl
  · split <;> simp
@[simp] theorem takeTrailingNow_enables (l : LaneNo) (s : State) : (takeTrailingNow l s).enables = s.enables := by
  unfold takeTrailingNow; simp only; split
  · rfl
  · rfl
  · rfl
  · rfl
  · rfl
  · split <;> simp
@[simp] theorem takeTrailingNow_cmd (l : LaneNo) (s : State) : (takeTrailingNow l s).cmd = s.cmd := by
  unfold takeTrailingNow; simp only; split
  · rfl
  · rfl
  · rfl
  · rfl
  · rfl
  · split <;> simp
@[simp] theorem takeTrailingNow_result (l : LaneNo) (s : State) : (takeTrailingNow l s).result = s.result := by
  unfold takeTrailingNow; simp only; split
  · rfl
  · rfl
  · rfl
  · rfl
  · rfl
  · split <;> simp
@[simp] theorem takeTrailingNow_params (l : LaneNo) (s : State) : (takeTrailingNow l s).params = s.params := by
  unfold takeTrailingNow; simp only; split
  · rfl
  · rfl
  · rfl
  · rfl
  · rfl
  · split <;> simp
@[simp] theorem takeTrailingNow_reply (l : LaneNo) (s : State) : (takeTrailingNow l s).reply = s.reply := by
  unfold takeTrailingNow; simp only; split
  · rfl
  · rfl
  · rfl
  · rfl
  · rfl
  · split <;> simp
@[simp] theorem takeTrailingNow_readData (l : LaneNo) (s : State) : (takeTrailingNow l s).readData = s.readData := by
  unfold takeTrailingNow; simp only; split
  · rfl
  · rfl
  · rfl
  · rfl
  · rfl
  · split <;> simp

/-! ### What takeTrailing leaves unchanged -/

@[simp] theorem takeTrailing_pending (l : LaneNo) (s : State) : (takeTrailing l s).pending = s.pending := by
  simp [takeTrailing]
@[simp] theorem takeTrailing_inReset (l : LaneNo) (s : State) : (takeTrailing l s).inReset = s.inReset := by
  simp [takeTrailing]
@[simp] theorem takeTrailing_timebase (l : LaneNo) (s : State) : (takeTrailing l s).timebase = s.timebase := by
  simp [takeTrailing]
@[simp] theorem takeTrailing_divCount (l : LaneNo) (s : State) : (takeTrailing l s).divCount = s.divCount := by
  simp [takeTrailing]
@[simp] theorem takeTrailing_p (l : LaneNo) (s : State) : (takeTrailing l s).p = s.p := by
  simp [takeTrailing]
@[simp] theorem takeTrailing_k (l : LaneNo) (s : State) : (takeTrailing l s).k = s.k := by
  simp [takeTrailing]
@[simp] theorem takeTrailing_encFilter (l : LaneNo) (s : State) : (takeTrailing l s).encFilter = s.encFilter := by
  simp [takeTrailing]
@[simp] theorem takeTrailing_latchMid (l : LaneNo) (s : State) : (takeTrailing l s).latchMid = s.latchMid := by
  simp [takeTrailing]
@[simp] theorem takeTrailing_latchHigh (l : LaneNo) (s : State) : (takeTrailing l s).latchHigh = s.latchHigh := by
  simp [takeTrailing]
@[simp] theorem takeTrailing_haltCause (l : LaneNo) (s : State) : (takeTrailing l s).haltCause = s.haltCause := by
  simp [takeTrailing]
@[simp] theorem takeTrailing_xstopFilter (l : LaneNo) (s : State) : (takeTrailing l s).xstopFilter = s.xstopFilter := by
  simp [takeTrailing]
@[simp] theorem takeTrailing_xstopEdge (l : LaneNo) (s : State) : (takeTrailing l s).xstopEdge = s.xstopEdge := by
  simp [takeTrailing]
@[simp] theorem takeTrailing_tc (l : LaneNo) (s : State) : (takeTrailing l s).tc = s.tc := by
  simp [takeTrailing]
@[simp] theorem takeTrailing_freeThreshold (l : LaneNo) (s : State) : (takeTrailing l s).freeThreshold = s.freeThreshold := by
  simp [takeTrailing]
@[simp] theorem takeTrailing_profiles (l : LaneNo) (s : State) : (takeTrailing l s).profiles = s.profiles := by
  simp [takeTrailing]
@[simp] theorem takeTrailing_haltEntered (l : LaneNo) (s : State) : (takeTrailing l s).haltEntered = s.haltEntered := by
  simp [takeTrailing]
@[simp] theorem takeTrailing_freeLow (l : LaneNo) (s : State) : (takeTrailing l s).freeLow = s.freeLow := by
  simp [takeTrailing]
@[simp] theorem takeTrailing_enables (l : LaneNo) (s : State) : (takeTrailing l s).enables = s.enables := by
  simp [takeTrailing]
@[simp] theorem takeTrailing_cmd (l : LaneNo) (s : State) : (takeTrailing l s).cmd = s.cmd := by
  simp [takeTrailing]
@[simp] theorem takeTrailing_result (l : LaneNo) (s : State) : (takeTrailing l s).result = s.result := by
  simp [takeTrailing]
@[simp] theorem takeTrailing_params (l : LaneNo) (s : State) : (takeTrailing l s).params = s.params := by
  simp [takeTrailing]
@[simp] theorem takeTrailing_reply (l : LaneNo) (s : State) : (takeTrailing l s).reply = s.reply := by
  simp [takeTrailing]
@[simp] theorem takeTrailing_readData (l : LaneNo) (s : State) : (takeTrailing l s).readData = s.readData := by
  simp [takeTrailing]

/-! ### What takeSense leaves unchanged -/

@[simp] theorem takeSense_pending (l : LaneNo) (e : Sense) (s : State) : (takeSense l e s).pending = s.pending := by
  cases e <;> simp [takeSense]
@[simp] theorem takeSense_inReset (l : LaneNo) (e : Sense) (s : State) : (takeSense l e s).inReset = s.inReset := by
  cases e <;> simp [takeSense]
@[simp] theorem takeSense_timebase (l : LaneNo) (e : Sense) (s : State) : (takeSense l e s).timebase = s.timebase := by
  cases e <;> simp [takeSense]
@[simp] theorem takeSense_divCount (l : LaneNo) (e : Sense) (s : State) : (takeSense l e s).divCount = s.divCount := by
  cases e <;> simp [takeSense]
@[simp] theorem takeSense_p (l : LaneNo) (e : Sense) (s : State) : (takeSense l e s).p = s.p := by
  cases e <;> simp [takeSense]
@[simp] theorem takeSense_k (l : LaneNo) (e : Sense) (s : State) : (takeSense l e s).k = s.k := by
  cases e <;> simp [takeSense]
@[simp] theorem takeSense_encFilter (l : LaneNo) (e : Sense) (s : State) : (takeSense l e s).encFilter = s.encFilter := by
  cases e <;> simp [takeSense]
@[simp] theorem takeSense_latchMid (l : LaneNo) (e : Sense) (s : State) : (takeSense l e s).latchMid = s.latchMid := by
  cases e <;> simp [takeSense]
@[simp] theorem takeSense_latchHigh (l : LaneNo) (e : Sense) (s : State) : (takeSense l e s).latchHigh = s.latchHigh := by
  cases e <;> simp [takeSense]
@[simp] theorem takeSense_haltCause (l : LaneNo) (e : Sense) (s : State) : (takeSense l e s).haltCause = s.haltCause := by
  cases e <;> simp [takeSense]
@[simp] theorem takeSense_xstopFilter (l : LaneNo) (e : Sense) (s : State) : (takeSense l e s).xstopFilter = s.xstopFilter := by
  cases e <;> simp [takeSense]
@[simp] theorem takeSense_xstopEdge (l : LaneNo) (e : Sense) (s : State) : (takeSense l e s).xstopEdge = s.xstopEdge := by
  cases e <;> simp [takeSense]
@[simp] theorem takeSense_freeThreshold (l : LaneNo) (e : Sense) (s : State) : (takeSense l e s).freeThreshold = s.freeThreshold := by
  cases e <;> simp [takeSense]
@[simp] theorem takeSense_profiles (l : LaneNo) (e : Sense) (s : State) : (takeSense l e s).profiles = s.profiles := by
  cases e <;> simp [takeSense]
@[simp] theorem takeSense_haltEntered (l : LaneNo) (e : Sense) (s : State) : (takeSense l e s).haltEntered = s.haltEntered := by
  cases e <;> simp [takeSense]
@[simp] theorem takeSense_enables (l : LaneNo) (e : Sense) (s : State) : (takeSense l e s).enables = s.enables := by
  cases e <;> simp [takeSense]
@[simp] theorem takeSense_cmd (l : LaneNo) (e : Sense) (s : State) : (takeSense l e s).cmd = s.cmd := by
  cases e <;> simp [takeSense]
@[simp] theorem takeSense_result (l : LaneNo) (e : Sense) (s : State) : (takeSense l e s).result = s.result := by
  cases e <;> simp [takeSense]
@[simp] theorem takeSense_params (l : LaneNo) (e : Sense) (s : State) : (takeSense l e s).params = s.params := by
  cases e <;> simp [takeSense]
@[simp] theorem takeSense_reply (l : LaneNo) (e : Sense) (s : State) : (takeSense l e s).reply = s.reply := by
  cases e <;> simp [takeSense]
@[simp] theorem takeSense_readData (l : LaneNo) (e : Sense) (s : State) : (takeSense l e s).readData = s.readData := by
  cases e <;> simp [takeSense]

/-! ### What flushLane leaves unchanged -/

@[simp] theorem flushLane_pending (l : LaneNo) (s : State) : (flushLane l s).pending = s.pending := by
  unfold flushLane; split
  · rfl
  · simp
@[simp] theorem flushLane_inReset (l : LaneNo) (s : State) : (flushLane l s).inReset = s.inReset := by
  unfold flushLane; split
  · rfl
  · simp
@[simp] theorem flushLane_timebase (l : LaneNo) (s : State) : (flushLane l s).timebase = s.timebase := by
  unfold flushLane; split
  · rfl
  · simp
@[simp] theorem flushLane_divCount (l : LaneNo) (s : State) : (flushLane l s).divCount = s.divCount := by
  unfold flushLane; split
  · rfl
  · simp
@[simp] theorem flushLane_p (l : LaneNo) (s : State) : (flushLane l s).p = s.p := by
  unfold flushLane; split
  · rfl
  · simp
@[simp] theorem flushLane_k (l : LaneNo) (s : State) : (flushLane l s).k = s.k := by
  unfold flushLane; split
  · rfl
  · simp
@[simp] theorem flushLane_encFilter (l : LaneNo) (s : State) : (flushLane l s).encFilter = s.encFilter := by
  unfold flushLane; split
  · rfl
  · simp
@[simp] theorem flushLane_latchMid (l : LaneNo) (s : State) : (flushLane l s).latchMid = s.latchMid := by
  unfold flushLane; split
  · rfl
  · simp
@[simp] theorem flushLane_latchHigh (l : LaneNo) (s : State) : (flushLane l s).latchHigh = s.latchHigh := by
  unfold flushLane; split
  · rfl
  · simp
@[simp] theorem flushLane_haltCause (l : LaneNo) (s : State) : (flushLane l s).haltCause = s.haltCause := by
  unfold flushLane; split
  · rfl
  · simp
@[simp] theorem flushLane_xstopFilter (l : LaneNo) (s : State) : (flushLane l s).xstopFilter = s.xstopFilter := by
  unfold flushLane; split
  · rfl
  · simp
@[simp] theorem flushLane_xstopEdge (l : LaneNo) (s : State) : (flushLane l s).xstopEdge = s.xstopEdge := by
  unfold flushLane; split
  · rfl
  · simp
@[simp] theorem flushLane_freeThreshold (l : LaneNo) (s : State) : (flushLane l s).freeThreshold = s.freeThreshold := by
  unfold flushLane; split
  · rfl
  · simp
@[simp] theorem flushLane_profiles (l : LaneNo) (s : State) : (flushLane l s).profiles = s.profiles := by
  unfold flushLane; split
  · rfl
  · simp
@[simp] theorem flushLane_haltEntered (l : LaneNo) (s : State) : (flushLane l s).haltEntered = s.haltEntered := by
  unfold flushLane; split
  · rfl
  · simp
@[simp] theorem flushLane_enables (l : LaneNo) (s : State) : (flushLane l s).enables = s.enables := by
  unfold flushLane; split
  · rfl
  · simp
@[simp] theorem flushLane_cmd (l : LaneNo) (s : State) : (flushLane l s).cmd = s.cmd := by
  unfold flushLane; split
  · rfl
  · simp
@[simp] theorem flushLane_result (l : LaneNo) (s : State) : (flushLane l s).result = s.result := by
  unfold flushLane; split
  · rfl
  · simp
@[simp] theorem flushLane_params (l : LaneNo) (s : State) : (flushLane l s).params = s.params := by
  unfold flushLane; split
  · rfl
  · simp
@[simp] theorem flushLane_reply (l : LaneNo) (s : State) : (flushLane l s).reply = s.reply := by
  unfold flushLane; split
  · rfl
  · simp
@[simp] theorem flushLane_readData (l : LaneNo) (s : State) : (flushLane l s).readData = s.readData := by
  unfold flushLane; split
  · rfl
  · simp

/-! ### What takeXstop leaves unchanged -/

@[simp] theorem takeXstop_pending (d : EdgeDir) (s : State) : (takeXstop d s).pending = s.pending := by
  unfold takeXstop; split
  · rfl
  · split
    · simp only; split <;> simp
    · rfl
@[simp] theorem takeXstop_inReset (d : EdgeDir) (s : State) : (takeXstop d s).inReset = s.inReset := by
  unfold takeXstop; split
  · rfl
  · split
    · simp only; split <;> simp
    · rfl
@[simp] theorem takeXstop_timebase (d : EdgeDir) (s : State) : (takeXstop d s).timebase = s.timebase := by
  unfold takeXstop; split
  · rfl
  · split
    · simp only; split <;> simp
    · rfl
@[simp] theorem takeXstop_divCount (d : EdgeDir) (s : State) : (takeXstop d s).divCount = s.divCount := by
  unfold takeXstop; split
  · rfl
  · split
    · simp only; split <;> simp
    · rfl
@[simp] theorem takeXstop_p (d : EdgeDir) (s : State) : (takeXstop d s).p = s.p := by
  unfold takeXstop; split
  · rfl
  · split
    · simp only; split <;> simp
    · rfl
@[simp] theorem takeXstop_k (d : EdgeDir) (s : State) : (takeXstop d s).k = s.k := by
  unfold takeXstop; split
  · rfl
  · split
    · simp only; split <;> simp
    · rfl
@[simp] theorem takeXstop_encFilter (d : EdgeDir) (s : State) : (takeXstop d s).encFilter = s.encFilter := by
  unfold takeXstop; split
  · rfl
  · split
    · simp only; split <;> simp
    · rfl
@[simp] theorem takeXstop_latchMid (d : EdgeDir) (s : State) : (takeXstop d s).latchMid = s.latchMid := by
  unfold takeXstop; split
  · rfl
  · split
    · simp only; split <;> simp
    · rfl
@[simp] theorem takeXstop_latchHigh (d : EdgeDir) (s : State) : (takeXstop d s).latchHigh = s.latchHigh := by
  unfold takeXstop; split
  · rfl
  · split
    · simp only; split <;> simp
    · rfl
@[simp] theorem takeXstop_xstopFilter (d : EdgeDir) (s : State) : (takeXstop d s).xstopFilter = s.xstopFilter := by
  unfold takeXstop; split
  · rfl
  · split
    · simp only; split <;> simp
    · rfl
@[simp] theorem takeXstop_xstopEdge (d : EdgeDir) (s : State) : (takeXstop d s).xstopEdge = s.xstopEdge := by
  unfold takeXstop; split
  · rfl
  · split
    · simp only; split <;> simp
    · rfl
@[simp] theorem takeXstop_freeThreshold (d : EdgeDir) (s : State) : (takeXstop d s).freeThreshold = s.freeThreshold := by
  unfold takeXstop; split
  · rfl
  · split
    · simp only; split <;> simp
    · rfl
@[simp] theorem takeXstop_profiles (d : EdgeDir) (s : State) : (takeXstop d s).profiles = s.profiles := by
  unfold takeXstop; split
  · rfl
  · split
    · simp only; split <;> simp
    · rfl
@[simp] theorem takeXstop_enables (d : EdgeDir) (s : State) : (takeXstop d s).enables = s.enables := by
  unfold takeXstop; split
  · rfl
  · split
    · simp only; split <;> simp
    · rfl
@[simp] theorem takeXstop_cmd (d : EdgeDir) (s : State) : (takeXstop d s).cmd = s.cmd := by
  unfold takeXstop; split
  · rfl
  · split
    · simp only; split <;> simp
    · rfl
@[simp] theorem takeXstop_result (d : EdgeDir) (s : State) : (takeXstop d s).result = s.result := by
  unfold takeXstop; split
  · rfl
  · split
    · simp only; split <;> simp
    · rfl
@[simp] theorem takeXstop_params (d : EdgeDir) (s : State) : (takeXstop d s).params = s.params := by
  unfold takeXstop; split
  · rfl
  · split
    · simp only; split <;> simp
    · rfl
@[simp] theorem takeXstop_reply (d : EdgeDir) (s : State) : (takeXstop d s).reply = s.reply := by
  unfold takeXstop; split
  · rfl
  · split
    · simp only; split <;> simp
    · rfl
@[simp] theorem takeXstop_readData (d : EdgeDir) (s : State) : (takeXstop d s).readData = s.readData := by
  unfold takeXstop; split
  · rfl
  · split
    · simp only; split <;> simp
    · rfl

/-! ### What flushXstop leaves unchanged -/

@[simp] theorem flushXstop_pending (s : State) : (flushXstop s).pending = s.pending := by
  unfold flushXstop; split
  · rfl
  · simp
@[simp] theorem flushXstop_inReset (s : State) : (flushXstop s).inReset = s.inReset := by
  unfold flushXstop; split
  · rfl
  · simp
@[simp] theorem flushXstop_timebase (s : State) : (flushXstop s).timebase = s.timebase := by
  unfold flushXstop; split
  · rfl
  · simp
@[simp] theorem flushXstop_divCount (s : State) : (flushXstop s).divCount = s.divCount := by
  unfold flushXstop; split
  · rfl
  · simp
@[simp] theorem flushXstop_p (s : State) : (flushXstop s).p = s.p := by
  unfold flushXstop; split
  · rfl
  · simp
@[simp] theorem flushXstop_k (s : State) : (flushXstop s).k = s.k := by
  unfold flushXstop; split
  · rfl
  · simp
@[simp] theorem flushXstop_encFilter (s : State) : (flushXstop s).encFilter = s.encFilter := by
  unfold flushXstop; split
  · rfl
  · simp
@[simp] theorem flushXstop_latchMid (s : State) : (flushXstop s).latchMid = s.latchMid := by
  unfold flushXstop; split
  · rfl
  · simp
@[simp] theorem flushXstop_latchHigh (s : State) : (flushXstop s).latchHigh = s.latchHigh := by
  unfold flushXstop; split
  · rfl
  · simp
@[simp] theorem flushXstop_xstopFilter (s : State) : (flushXstop s).xstopFilter = s.xstopFilter := by
  unfold flushXstop; split
  · rfl
  · simp
@[simp] theorem flushXstop_freeThreshold (s : State) : (flushXstop s).freeThreshold = s.freeThreshold := by
  unfold flushXstop; split
  · rfl
  · simp
@[simp] theorem flushXstop_profiles (s : State) : (flushXstop s).profiles = s.profiles := by
  unfold flushXstop; split
  · rfl
  · simp
@[simp] theorem flushXstop_enables (s : State) : (flushXstop s).enables = s.enables := by
  unfold flushXstop; split
  · rfl
  · simp
@[simp] theorem flushXstop_cmd (s : State) : (flushXstop s).cmd = s.cmd := by
  unfold flushXstop; split
  · rfl
  · simp
@[simp] theorem flushXstop_result (s : State) : (flushXstop s).result = s.result := by
  unfold flushXstop; split
  · rfl
  · simp
@[simp] theorem flushXstop_params (s : State) : (flushXstop s).params = s.params := by
  unfold flushXstop; split
  · rfl
  · simp
@[simp] theorem flushXstop_reply (s : State) : (flushXstop s).reply = s.reply := by
  unfold flushXstop; split
  · rfl
  · simp
@[simp] theorem flushXstop_readData (s : State) : (flushXstop s).readData = s.readData := by
  unfold flushXstop; split
  · rfl
  · simp

/-! ### What forLanesFlush leaves unchanged -/

@[simp] theorem forLanesFlush_pending (s : State) : (forLanes flushLane s).pending = s.pending := 
  foldl_keeps State.pending _ (fun a l => flushLane_pending l a) allLanes s
@[simp] theorem forLanesFlush_inReset (s : State) : (forLanes flushLane s).inReset = s.inReset := 
  foldl_keeps State.inReset _ (fun a l => flushLane_inReset l a) allLanes s
@[simp] theorem forLanesFlush_timebase (s : State) : (forLanes flushLane s).timebase = s.timebase := 
  foldl_keeps State.timebase _ (fun a l => flushLane_timebase l a) allLanes s
@[simp] theorem forLanesFlush_divCount (s : State) : (forLanes flushLane s).divCount = s.divCount := 
  foldl_keeps State.divCount _ (fun a l => flushLane_divCount l a) allLanes s
@[simp] theorem forLanesFlush_p (s : State) : (forLanes flushLane s).p = s.p := 
  foldl_keeps State.p _ (fun a l => flushLane_p l a) allLanes s
@[simp] theorem forLanesFlush_k (s : State) : (forLanes flushLane s).k = s.k := 
  foldl_keeps State.k _ (fun a l => flushLane_k l a) allLanes s
@[simp] theorem forLanesFlush_encFilter (s : State) : (forLanes flushLane s).encFilter = s.encFilter := 
  foldl_keeps State.encFilter _ (fun a l => flushLane_encFilter l a) allLanes s
@[simp] theorem forLanesFlush_latchMid (s : State) : (forLanes flushLane s).latchMid = s.latchMid := 
  foldl_keeps State.latchMid _ (fun a l => flushLane_latchMid l a) allLanes s
@[simp] theorem forLanesFlush_latchHigh (s : State) : (forLanes flushLane s).latchHigh = s.latchHigh := 
  foldl_keeps State.latchHigh _ (fun a l => flushLane_latchHigh l a) allLanes s
@[simp] theorem forLanesFlush_haltCause (s : State) : (forLanes flushLane s).haltCause = s.haltCause := 
  foldl_keeps State.haltCause _ (fun a l => flushLane_haltCause l a) allLanes s
@[simp] theorem forLanesFlush_xstopFilter (s : State) : (forLanes flushLane s).xstopFilter = s.xstopFilter := 
  foldl_keeps State.xstopFilter _ (fun a l => flushLane_xstopFilter l a) allLanes s
@[simp] theorem forLanesFlush_xstopEdge (s : State) : (forLanes flushLane s).xstopEdge = s.xstopEdge := 
  foldl_keeps State.xstopEdge _ (fun a l => flushLane_xstopEdge l a) allLanes s
@[simp] theorem forLanesFlush_freeThreshold (s : State) : (forLanes flushLane s).freeThreshold = s.freeThreshold := 
  foldl_keeps State.freeThreshold _ (fun a l => flushLane_freeThreshold l a) allLanes s
@[simp] theorem forLanesFlush_profiles (s : State) : (forLanes flushLane s).profiles = s.profiles := 
  foldl_keeps State.profiles _ (fun a l => flushLane_profiles l a) allLanes s
@[simp] theorem forLanesFlush_haltEntered (s : State) : (forLanes flushLane s).haltEntered = s.haltEntered := 
  foldl_keeps State.haltEntered _ (fun a l => flushLane_haltEntered l a) allLanes s
@[simp] theorem forLanesFlush_enables (s : State) : (forLanes flushLane s).enables = s.enables := 
  foldl_keeps State.enables _ (fun a l => flushLane_enables l a) allLanes s
@[simp] theorem forLanesFlush_cmd (s : State) : (forLanes flushLane s).cmd = s.cmd := 
  foldl_keeps State.cmd _ (fun a l => flushLane_cmd l a) allLanes s
@[simp] theorem forLanesFlush_result (s : State) : (forLanes flushLane s).result = s.result := 
  foldl_keeps State.result _ (fun a l => flushLane_result l a) allLanes s
@[simp] theorem forLanesFlush_params (s : State) : (forLanes flushLane s).params = s.params := 
  foldl_keeps State.params _ (fun a l => flushLane_params l a) allLanes s
@[simp] theorem forLanesFlush_reply (s : State) : (forLanes flushLane s).reply = s.reply := 
  foldl_keeps State.reply _ (fun a l => flushLane_reply l a) allLanes s
@[simp] theorem forLanesFlush_readData (s : State) : (forLanes flushLane s).readData = s.readData := 
  foldl_keeps State.readData _ (fun a l => flushLane_readData l a) allLanes s

/-! ### What finishTick leaves unchanged -/

@[simp] theorem finishTick_pending (s : State) : (finishTick s).pending = s.pending := by
  simp [finishTick]
@[simp] theorem finishTick_inReset (s : State) : (finishTick s).inReset = s.inReset := by
  simp [finishTick]
@[simp] theorem finishTick_timebase (s : State) : (finishTick s).timebase = s.timebase := by
  simp [finishTick]
@[simp] theorem finishTick_divCount (s : State) : (finishTick s).divCount = s.divCount := by
  simp [finishTick]
@[simp] theorem finishTick_k (s : State) : (finishTick s).k = s.k := by
  simp [finishTick]
@[simp] theorem finishTick_encFilter (s : State) : (finishTick s).encFilter = s.encFilter := by
  simp [finishTick]
@[simp] theorem finishTick_latchMid (s : State) : (finishTick s).latchMid = s.latchMid := by
  simp [finishTick]
@[simp] theorem finishTick_latchHigh (s : State) : (finishTick s).latchHigh = s.latchHigh := by
  simp [finishTick]
@[simp] theorem finishTick_xstopFilter (s : State) : (finishTick s).xstopFilter = s.xstopFilter := by
  simp [finishTick]
@[simp] theorem finishTick_freeThreshold (s : State) : (finishTick s).freeThreshold = s.freeThreshold := by
  simp [finishTick]
@[simp] theorem finishTick_profiles (s : State) : (finishTick s).profiles = s.profiles := by
  simp [finishTick]
@[simp] theorem finishTick_enables (s : State) : (finishTick s).enables = s.enables := by
  simp [finishTick]
@[simp] theorem finishTick_cmd (s : State) : (finishTick s).cmd = s.cmd := by
  simp [finishTick]
@[simp] theorem finishTick_result (s : State) : (finishTick s).result = s.result := by
  simp [finishTick]
@[simp] theorem finishTick_params (s : State) : (finishTick s).params = s.params := by
  simp [finishTick]
@[simp] theorem finishTick_reply (s : State) : (finishTick s).reply = s.reply := by
  simp [finishTick]
@[simp] theorem finishTick_readData (s : State) : (finishTick s).readData = s.readData := by
  simp [finishTick]

/-! ### Accesses and commands (R152, R162) -/

/-- Held in reset, no access is taken. -/
theorem access_held {f : State → State} {s : State} (h : s.inReset = true) : access f s = s := event_held h

/-- Otherwise an access comes after what the last tick has made. -/
theorem access_taken {f : State → State} {s : State} (h : s.inReset = false) : access f s = f (finishTick s) := event_taken h

/-- Held in reset, no command is taken. -/
theorem runCommand_held {c : HostCommand} {s : State} (h : s.inReset = true) : runCommand c s = s := by simp [runCommand, h]

/-- Otherwise CMD and RESULT are written over what the command's work leaves of the state after the last tick. -/
theorem runCommand_taken {c : HostCommand} {s : State} (h : s.inReset = false) :
    runCommand c s =
      { (commandBody c (finishTick s)).2 with cmd := c.code, result := (commandBody c (finishTick s)).1 } := by
  simp [runCommand, h]

end Sys2Proof.Machine
end

