-- ==== Sys2Proof/Tests/Slice0.lean ====
section
/-! SUPPORT. The model's own tests: the checks of WellFormed on ill-formed terms, small worked cases of the spec, and, for
every statement that has hypotheses, a theorem that shows a state and operands meeting them (`test_hyp_…`). -/

namespace Sys2Proof.Tests

open Sys2Proof Sys2Proof.Machine

set_option maxRecDepth 20000
set_option Elab.async false

/-! ### States -/

/-- What the part answers to a command: every command answers a next state. -/
def after (c : Instr) (s : State) : State :=
  match exec c s with
  | .next t => t
  | .fault _ => s
  | .refused _ => s

theorem exec_after (c : Instr) (s : State) : exec c s = .next (after c s) := by cases c <;> rfl

def withParams (v : Vector Byte 12) (s : State) : State := { s with params := v }

/-- After reset, with XSTOP inactive. -/
def calm : State := { State.reset with xstopFilter := ⟨.high, 0⟩ }

def lane1 : Lane := { Lane.reset with record := { LaneRecord.reset with enable := true }, state := .clear }

/-- A running line with an enabled, CLEAR lane 1 and nothing on the belt. -/
def bare : State := { calm with run := .run, p := 10000, lanes := #v[Lane.reset, lane1, Lane.reset, Lane.reset] }

/-- A record whose item fields are the reset ones. -/
def recOf (tag : Byte) (lane : LaneNo) (lead : Pos) (st : ItemState) : ItemRecord := newRecord tag lane lead LaneRecord.reset.item |>
  fun r => { r with state := st }

/-- Measured for 10 counts at P = 10000, which is its MIN_LENGTH. -/
def measured : ItemRecord :=
  { recOf 6 0 9990 .measuring with snapshot := { LaneRecord.reset.item with minLength := 10 } }

def waitingRec : ItemRecord := { recOf 5 1 9500 .pending with length := some 60 }

/-- A second PENDING record of lane 1, younger, with default EJECT by station 2, at its decision position. -/
def dueRec : ItemRecord :=
  { recOf 4 1 9550 .pending with
    length := some 40, d := 10000, snapshot := { LaneRecord.reset.item with defaultKind := .eject, defaultStation := 2 } }

def listed : ItemRecord :=
  { recOf 7 1 9200 .committed with
    length := some 50, verdict := some ⟨.commanded, 2, 0, 5⟩, order := some ⟨10200, .time 10⟩ }

def fired : ItemRecord :=
  { recOf 8 1 8990 .firing with
    length := some 50, verdict := some ⟨.defaulted, 3, 0, 7⟩, order := some ⟨9990, .time 10⟩, firing := some ⟨9990, 4⟩ }

def ended : ItemRecord := { recOf 9 1 8000 .retired with length := some 50, outcome := some .passed }

def station (l : LaneNo) (e : Engine) : Station :=
  { Station.reset with record := { StationRecord.reset with enable := true, lane := l }, engine := e }

def pulse : Pulse := ⟨8, .time 10 10, 4⟩

def stations : Vector Station 8 :=
  #v[station 0 .offReady, Station.reset, { station 1 .offReady with list := [7] },
     { station 1 (.on pulse) with guardMark := some 10090 }, station 1 (.recovery 5), Station.reset, Station.reset,
     Station.reset]

/-- A busy line with room in the queue: lane 0 MEASURING, lane 1 CLEAR, lane 2 MISSING, lane 3 JAMMED; one record of each
live state, station 2 with an order, station 3 ON, station 4 in RECOVERY. -/
def busy : State :=
  { bare with
    lanes := #v[{ lane1 with state := .measuring, measurement := some ⟨6, 75525⟩, filter := ⟨.high, 0⟩ }, lane1,
                { lane1 with state := .missing, filter := ⟨.high, 0⟩ },
                { lane1 with state := .jammed, filter := ⟨.high, 0⟩ }],
    items := [fired, listed, waitingRec, measured], announce := [5], tc := 10, stations, k := 3, laneAlert := true,
    haltEntered := true, drainDone := true, freeLow := true, backlogFlag := true, enables := 127 }

/-- The busy line with 16 outcomes waiting and one more in the backlog. -/
def full : State :=
  { busy with items := ended :: busy.items, backlog := [9], queue := List.replicate 16 (outcomeOf ended .passed) }

/-- The busy line with the due record 4. -/
def due : State := { busy with items := busy.items ++ [dueRec] }

/-- A running line whose 32 slots are taken. -/
def crowded : State :=
  { bare with items := (List.range 32).map (fun n => { waitingRec with tag := BitVec.ofNat 8 n }) }

theorem sound_calm : calm.Sound := State.sound_of_check (by decide +kernel)
theorem sound_bare : bare.Sound := State.sound_of_check (by decide +kernel)
theorem sound_busy : busy.Sound := State.sound_of_check (by decide +kernel)
theorem sound_full : full.Sound := State.sound_of_check (by decide +kernel)
theorem sound_due : due.Sound := State.sound_of_check (by decide +kernel)
theorem sound_crowded : crowded.Sound := State.sound_of_check (by decide +kernel)
theorem spaced_busy : busy.spacingLaw := State.spacing_of_check (by decide +kernel)
theorem spaced_full : full.spacingLaw := State.spacing_of_check (by decide +kernel)
theorem spaced_due : due.spacingLaw := State.spacing_of_check (by decide +kernel)

def halted : State := { calm with run := .halt }
def draining : State := { busy with run := .drain }
theorem sound_draining : draining.Sound := State.sound_of_check (by decide +kernel)
theorem spaced_draining : draining.spacingLaw := State.spacing_of_check (by decide +kernel)

/-- A write cycle that is taken, with no time to spare. -/
def good : BusCycle := ⟨2, false⟩

/-! ### WellFormed refuses what its checks are for -/

theorem test_badCommand_of_a_named_code_is_ill_formed : (Instr.badCommand 0x01).wellFormed = false := by decide
theorem test_badCommand_of_no_code_is_well_formed : (Instr.badCommand 0x06).wellFormed = true := by decide
theorem test_reset_of_three_samples_is_ill_formed : (Instr.reset 3).wellFormed = false := by decide
theorem test_reset_of_four_samples_is_well_formed : (Instr.reset 4).wellFormed = true := by decide

/-! ### Worked cases -/

/-- R2: depth 2 needs two differing samples in a row. -/
theorem test_filter_needs_depth_samples :
    filterSample ⟨.low, 0⟩ 2 .high = (⟨.low, 1⟩, none) ∧ filterSample ⟨.low, 1⟩ 2 .high = (⟨.high, 0⟩, some .rising) := by
  decide

/-- R8: the ahead distance wraps, and 2^23 is no longer ahead. -/
theorem test_ahead_wraps :
    aheadDist 16777215 4 = 5 ∧ isAhead 16777215 4 = true ∧ isAhead 0 0 = false ∧ isAhead 0 8388607 = true ∧
      isAhead 0 8388608 = false := by decide

/-- R154 and R158: START straight after reset answers STOPPED, since the XSTOP filter resets to its active level. -/
theorem test_start_after_reset_is_stopped :
    after .start State.reset = { State.reset with cmd := 0x01, result := .stopped } := by decide +kernel

/-- R36, R40, R62: an object of 60 counts on lane 1 becomes PENDING with LENGTH 60 and is announced. -/
theorem test_an_object_is_measured :
    after (.trailingEdge 1) { after (.leadEdge 1) bare with p := 10060 } =
      { bare with
        p := 10060, tc := 1, announce := [0],
        items := [{ recOf 0 1 10000 .pending with length := some 60 }] } := by decide +kernel

/-- R77 to R81: a verdict for record 5 at station 2 lies 300 counts ahead of record 7's order and joins the list behind it. -/
theorem test_a_verdict_is_placed :
    (after .verdict (withParams #v[5, 0x1C, 0x25, 2, 0, 5, 0, 0, 0, 0, 0, 0] busy)).result = .ok ∧
    ((after .verdict (withParams #v[5, 0x1C, 0x25, 2, 0, 5, 0, 0, 0, 0, 0, 0] busy)).station 2).list = [7, 5] := by
  decide +kernel

/-- R58 to R60: the due record's default EJECT goes to station 2. -/
theorem test_a_deadline_ejects : ((after (.deadline 4) due).station 2).list = [7, 4] := by decide +kernel

/-- R71, R142: NEXT_OUTCOME moves the backlog record into the queue and frees its slot. -/
theorem test_next_outcome_promotes :
    (after .nextOutcome full).queue.length = 16 ∧ (after .nextOutcome full).backlog = [] ∧
      (after .nextOutcome full).items = busy.items := by decide +kernel

/-- R22: HALT of the busy line leaves four HALTED outcomes. -/
theorem test_halt_ends_the_records :
    (after .halt busy).queue.map OutcomeRecord.outcome = [.halted, .halted, .halted, .halted] ∧
      (after .halt busy).items = [] := by decide +kernel

/-- A tick with XSTOP low twice halts the line once the part takes what is due. -/
theorem test_xstop_halts_by_ticks :
    (after (.tick ⟨.low, .high, #v[.low, .low, .low, .low]⟩ 0)
      { busy with xstopFilter := ⟨.low, 0⟩, xstopEdge := some .falling }).run = .halt := by decide +kernel

/-- The pins of a tick, with the sensors low. -/
def pins (enc xstop : Level) : PinSamples := ⟨enc, xstop, #v[.low, .low, .low, .low]⟩

/-- A busy line one encoder sample, or one rate count, from an advance; and the same in IDLE. -/
def nearEdge (s : State) : State := { s with encFilter := ⟨.low, 1⟩ }

/-- R6: an edge that a tick makes in IDLE is discarded; START after the tick does not make it an advance. -/
theorem test_an_edge_in_idle_is_not_stored :
    (after (.tick (pins .high .high) 0) (after .start (after (.tick (pins .high .high) 0) (nearEdge calm)))).p = calm.p ∧
    (after .start (after (.tick (pins .high .high) 0) (nearEdge calm))).run = .run := by decide +kernel

/-- R6: an edge that a tick makes in RUN is an advance before a HALT that follows the tick; a HALT before it discards it. -/
theorem test_an_edge_before_a_halt_advances :
    (after .halt (after (.tick (pins .high .high) 0) (nearEdge bare))).p = 10001 ∧
    (after (.tick (pins .high .high) 0) (after .halt (nearEdge bare))).p = 10000 := by decide +kernel

/-- R7: at RATE 1 the tick after START makes an advance and loads K, and HALT finds P advanced. -/
theorem test_the_rate_advances_before_a_halt :
    (after (.tick (pins .low .high) 0)
      { bare with timebase := { TimebaseRecord.reset with source := .internal, rate := 1 }, k := 1 }).k = 1 ∧
    (after .halt (after (.tick (pins .low .high) 0)
      { bare with timebase := { TimebaseRecord.reset with source := .internal, rate := 1 }, k := 1 })).p = 10001 := by
  decide +kernel

/-- R12: an edge that occurred before SET_TIMEBASE changed ENC_EDGE makes no advance. -/
theorem test_an_edge_before_set_timebase_is_gone :
    (after .start (after .setTimebase (after (.tick (pins .low .high) 0)
      (withParams #v[0, 1, 0, 2, 1, 1, 0, 0, 0, 0, 0, 0] { calm with encFilter := ⟨.high, 1⟩ })))).advanceDue = false := by
  decide +kernel

/-- R125: the advance is taken before the tick of the same time: FIRED with the count before the tick. -/
theorem test_the_advance_before_a_late_tick :
    (after (.offPositionReached 3)
      (busy.setStation 3 { station 1 (.on ⟨8, .span 10000 1000, 999⟩) with tickLate := true })).queue.map
        OutcomeRecord.outcome = [.fired] := by decide +kernel

/-- R149: the data lines at a read, and with RD and WR low together. -/
theorem test_data_lines :
    dataLines calm calm 0x14 ⟨.low, .low, .high⟩ = some 32 ∧ dataLines calm calm 0x14 ⟨.low, .low, .low⟩ = none ∧
    dataLines calm calm 0x14 ⟨.high, .low, .high⟩ = none := by decide +kernel

/-! ### The hypotheses of the statements are met -/

/-- With nothing waiting the command finds the state it is sent at; and after a tick it finds the state after the advance. -/
theorem test_hyp_finishTick :
    finishTick busy = busy ∧ finishTick calm = calm ∧ finishTick bare = bare ∧ finishTick full = full ∧
    finishTick draining = draining ∧ finishTick halted = halted ∧ finishTick State.reset = State.reset ∧
    finishTick { busy with advanceDue := true } = { busy with p := 10001 } := by decide +kernel

theorem test_hyp_EmptyQueueCountsOneClkin :
    calm.pending = [] ∧ ({ calm with divCount := 0 } : State).pending = [] ∧
      ({ calm with inReset := true } : State).pending = [] := by decide +kernel

theorem test_hyp_ResetIsTakenHeldAndReleased :
    4 ≤ 4 ∧ 3 < 4 ∧ (after (.reset 4) busy).inReset = true ∧ busy.inReset = false ∧ Instr.start ≠ .reset 4 ∧
      Instr.start ≠ .resetRelease := by decide +kernel

theorem test_hyp_CodesOutsideTheTableAreRefused :
    calm.inReset = false ∧ HostCommand.ofCode 0x00 = none ∧ HostCommand.ofCode 0x43 = none ∧
      HostCommand.ofCode 0xFF = none ∧ good.rdLow = false ∧ 2 ≤ good.periods := by decide +kernel

theorem test_hyp_CmdWriteTakesTheNamedCommand :
    Instr.start.hostCommand = some .start ∧ Instr.abort.hostCommand = some .abort ∧ good.rdLow = false ∧
      2 ≤ good.periods := by decide

theorem test_hyp_RegisterWritesActByLocation :
    busy.inReset = false ∧ (⟨2, true⟩ : BusCycle).rdLow = true ∧ (⟨1, false⟩ : BusCycle).periods < 2 ∧
    good.rdLow = false ∧ 2 ≤ good.periods ∧ (0x02 : BitVec 6) = BitVec.ofNat 6 ((0 : Fin 12).val + 2) ∧
    (0x0D : BitVec 6) = BitVec.ofNat 6 ((11 : Fin 12).val + 2) ∧ 0x11 ≤ (0x11 : BitVec 6).toNat ∧
    0x11 ≤ (0x3F : BitVec 6).toNat ∧ after (.registerWrite 0x0E 1 good) busy = busy ∧
    (0x0D < (0x0E : BitVec 6).toNat) ∧ (0x01 : BitVec 6).toNat < 0x02 := by decide +kernel

theorem test_hyp_Pos0ReadLatchesThePosition :
    busy.inReset = false ∧ exec .start busy = .next (after .start busy) := ⟨by decide +kernel, exec_after _ _⟩

theorem test_hyp_EnablesAreStoredAndKept :
    busy.inReset = false ∧ exec (.irqFlagsWrite 0xFF) busy = .next (after (.irqFlagsWrite 0xFF) busy) :=
  ⟨by decide +kernel, exec_after _ _⟩

theorem test_hyp_StickyFlagsClearByWriteUnlessHeld :
    busy.inReset = false ∧ busy.laneAlert = true ∧ busy.haltEntered = true ∧ busy.drainDone = true ∧
      busy.freeLow = true ∧ busy.backlogFlag = true ∧ exec .drain busy = .next (after .drain busy) :=
  ⟨by decide +kernel, by decide +kernel, by decide +kernel, by decide +kernel, by decide +kernel, by decide +kernel,
   exec_after _ _⟩

/-- A calm line with lane 1 enabled and lane 2 enabled with deferred sensor fields. -/
def readyLine : State :=
  { calm with
    lanes := #v[Lane.reset, { lane1 with state := .off },
                { lane1 with state := .off, settingsPending := true, polarity := .activeLow, depth := 3 }, Lane.reset] }

theorem test_hyp_StartRunsTheLine :
    (readyLine.inReset = false ∧ readyLine.run = .idle ∧ readyLine.xstopFilter.q = .high) ∧
    (readyLine.lane 0).record.enable = false ∧
    ((readyLine.lane 1).record.enable = true ∧ (readyLine.lane 1).settingsPending = false) ∧
    ((readyLine.lane 2).record.enable = true ∧ (readyLine.lane 2).settingsPending = true) ∧
    (State.reset.inReset = false ∧ State.reset.run = .idle ∧ State.reset.xstopFilter.q = .low) ∧
    (busy.inReset = false ∧ busy.run ≠ .idle) := by decide +kernel

theorem someLive_busy : busy.someLive := by unfold State.someLive; decide +kernel
theorem not_someLive_bare : ¬ bare.someLive := by unfold State.someLive; decide +kernel

theorem test_hyp_DrainCompletesWithNoLiveRecord :
    (busy.inReset = false ∧ busy.run = .run ∧ busy.someLive) ∧ (bare.inReset = false ∧ bare.run = .run ∧ ¬ bare.someLive) ∧
    (draining.run ≠ .run ∧ draining.run = .drain ∧ draining.someLive) ∧
    (({ bare with run := .drain } : State).run = .drain ∧ ¬ ({ bare with run := .drain } : State).someLive) :=
  ⟨⟨by decide +kernel, by decide +kernel, someLive_busy⟩, ⟨by decide +kernel, by decide +kernel, not_someLive_bare⟩,
   ⟨by decide +kernel, by decide +kernel, someLive_busy⟩, rfl, not_someLive_bare⟩

theorem test_hyp_DrainLastsOnlyWhileRecordsLive :
    draining.Sound ∧ draining.drainLaw ∧ draining.run = .drain ∧ step draining = .next (idleClock draining) :=
  ⟨sound_draining, fun _ => someLive_busy, rfl, rfl⟩

/-- The last record of a drain, whose pulse has come to its end. -/
def lastPulse : State :=
  { bare with
    run := .drain, items := [{ fired with firing := some ⟨9990, 10⟩, order := some ⟨9990, .span 10000⟩ }],
    stations := #v[Station.reset, Station.reset, Station.reset, station 1 (.on ⟨8, .span 10000 1000, 10⟩), Station.reset,
                   Station.reset, Station.reset, Station.reset] }

theorem test_hyp_HaltEndsEveryLiveRecord :
    (busy.inReset = false ∧ busy.run = .run ∧ busy.Sound ∧ busy = settleDue busy) ∧
    (draining.run = .drain ∧ draining.Sound ∧ draining = settleDue draining) ∧ calm.run = .idle ∧ halted.run = .halt ∧
    (lastPulse.run = .drain ∧ lastPulse = finishTick lastPulse ∧ (settleDue lastPulse).run = .idle) :=
  ⟨⟨rfl, rfl, sound_busy, by decide +kernel⟩, ⟨rfl, sound_draining, by decide +kernel⟩, rfl, rfl, by decide +kernel⟩

/-- The busy line once the XSTOP level has become active. -/
def stoppedBusy : State := { busy with xstopFilter := ⟨.low, 0⟩, xstopEdge := none }

theorem test_hyp_XstopHaltsARunningLine :
    (busy.inReset = false ∧ busy.xstopEdge = none ∧ busy = finishTick busy ∧ busy.run = .run ∧
      stoppedBusy = { busy with xstopFilter := ⟨.low, if busy.xstopFilter.q = .low then busy.xstopFilter.c else 0⟩,
                                xstopEdge := none } ∧ stoppedBusy = settleDue stoppedBusy ∧ stoppedBusy.run = .run) ∧
    draining.run = .drain ∧ calm.run = .idle ∧ halted.run = .halt ∧ (settleDue lastPulse).run = .idle ∧
    ({ busy with xstopEdge := some .falling } : State).xstopEdge = some .falling ∧
    ({ busy with xstopEdge := some .rising } : State).xstopEdge = some .rising := by decide +kernel

theorem sound_stoppedBusy : stoppedBusy.Sound := State.sound_of_check (by decide +kernel)

theorem test_hyp_ResumeLeavesHaltForIdle :
    halted.inReset = false ∧ halted.run = .halt ∧ halted.xstopFilter.q = .high ∧
    ({ halted with xstopFilter := ⟨.low, 0⟩ } : State).xstopFilter.q = .low ∧ calm.run ≠ .halt := by decide +kernel

theorem test_hyp_ClearLineEmptiesQueueAndBacklog :
    calm.inReset = false ∧ calm.run = .idle ∧ calm.Sound ∧ busy.run ≠ .idle := ⟨rfl, rfl, sound_calm, by decide +kernel⟩

theorem test_hyp_FilterFollowsItsTable :
    Level.high ≠ (⟨.low, 0⟩ : Filter).q ∧ (⟨.low, 0⟩ : Filter).c + 1 < 2 ∧ (⟨.low, 0⟩ : Filter).c + 1 = 1 ∧
      (⟨.high, 14⟩ : Filter).c + 1 = 15 := by decide

theorem test_hyp_TickIsTakenByEveryUser :
    busy.inReset = false ∧ busy.Sound ∧ settleAll busy = busy ∧ busy.k ≠ 1 ∧
    (settleAll { busy with advanceDue := true }).p = 10001 ∧ (1 : BitVec 8).getLsbD (0 : StationNo).val = true ∧
    (1 : BitVec 8).getLsbD (3 : StationNo).val = false ∧ (busy.station 3).engine = .on pulse ∧
    (busy.station 4).engine = .recovery 5 ∧ (busy.station 2).engine = .offReady ∧ (busy.station 1).engine = .disabled :=
  ⟨rfl, sound_busy, by decide +kernel⟩

/-- The busy line under INTERNAL, at a tick that ended the countdown. -/
def internal : State := { busy with timebase := { TimebaseRecord.reset with source := .internal }, advanceDue := true }

/-- The busy line at an encoder edge. -/
def atEdge : State := { busy with advanceDue := true, encFilter := ⟨.high, 0⟩ }

theorem test_hyp_AdvancesComeFromTheSelectedSource :
    (atEdge.inReset = false ∧ atEdge.advanceDue = true ∧ atEdge.timebase.source = .encoder ∧
      EdgeDir.rising = atEdge.timebase.encEdge ∧ atEdge.run = .run ∧
      settleReached { atEdge with advanceDue := false } = { atEdge with advanceDue := false }) ∧
    (busy.advanceDue = false ∧ finishTick busy = busy ∧ EdgeDir.falling ≠ busy.timebase.encEdge ∧
      settleReached { busy with encFilter := ⟨.high, 0⟩ } = { busy with encFilter := ⟨.high, 0⟩ }) ∧
    (internal.timebase.source = .internal ∧ internal.advanceDue = true ∧ internal.run = .run ∧
      settleReached { internal with advanceDue := false } = { internal with advanceDue := false }) ∧
    ({ internal with run := .halt } : State).run = .halt ∧ draining.run = .drain ∧ calm.run = .idle ∧
    (settleReached lastPulse).run = .idle ∧ settleEngines busy = busy := by decide +kernel

theorem test_hyp_PositionHoldsAdvancesOrIsLoaded :
    4 ≤ 4 ∧ exec (.reset 4) busy = .next (after (.reset 4) busy) ∧
      exec (.encoderEdge .rising) busy = .next (after (.encoderEdge .rising) busy) ∧
      exec .setPosition calm = .next (after .setPosition calm) :=
  ⟨by decide, exec_after _ _, exec_after _ _, exec_after _ _⟩

theorem test_hyp_SetTimebaseReplacesTheRecord :
    busy.run ≠ .idle ∧ calm.inReset = false ∧ calm.run = .idle ∧
    (∀ v : Vector Byte 12, v = #v[0, 1, 0, 1, 0, 1, 0, 0, 0, 0, 0, 0] ∨ v = #v[1, 0, 16, 15, 1, 255, 255, 0, 0, 0, 0, 0] →
      v[0].toNat ≤ 1 ∧ 1 ≤ (halfOf v[1] v[2]).toNat ∧ (halfOf v[1] v[2]).toNat ≤ 4096 ∧ 1 ≤ v[3].toNat ∧
        v[3].toNat ≤ 15 ∧ v[4].toNat ≤ 1 ∧ 1 ≤ (halfOf v[5] v[6]).toNat) ∧
    1 < (2 : Byte).toNat ∧ (halfOf 0 0).toNat < 1 ∧ 4096 < (halfOf 1 16).toNat ∧ (0 : Byte).toNat < 1 ∧
      15 < (16 : Byte).toNat := by
  refine ⟨by decide +kernel, rfl, rfl, ?_, by decide +kernel⟩
  rintro v (rfl | rfl) <;> decide +kernel

theorem test_hyp_TimebaseAndProfileAreReadBack :
    calm.inReset = false ∧ calm.params[0].toNat = (0 : ProfileNo).val ∧ (7 : Byte).toNat = (7 : ProfileNo).val ∧
      8 ≤ (8 : Byte).toNat := by decide +kernel

theorem test_hyp_SetPositionLoadsTheCounter :
    calm.inReset = false ∧ calm.run = .idle ∧ busy.inReset = false ∧ busy.run ≠ .idle := by decide +kernel

theorem test_hyp_SetLaneWritesTheWholeRecord :
    busy.inReset = false ∧
    (∀ v : Vector Byte 12,
      v = #v[0, 0, 1, 1, 0, 1, 0, 2, 0, 0, 0, 0] ∨ v = #v[3, 7, 15, 0xFE, 0xFF, 0xFE, 0xFF, 0xFF, 0xFF, 7, 7, 7] →
      v[0].toNat = (BitVec.toNat v[0]) ∧ v[0].toNat < 4 ∧ v[1].toNat ≤ 7 ∧ 1 ≤ v[2].toNat ∧ v[2].toNat ≤ 15 ∧
      1 ≤ (halfOf v[3] v[4]).toNat ∧ (halfOf v[3] v[4]).toNat ≤ (halfOf v[5] v[6]).toNat ∧
      (halfOf v[5] v[6]).toNat < (halfOf v[7] v[8]).toNat ∧ v[9].toNat < 8 ∧ v[10].toNat < 8 ∧ v[11].toNat < 8) ∧
    4 ≤ (4 : Byte).toNat ∧ 7 < (8 : Byte).toNat ∧ (0 : Byte).toNat < 1 ∧ 15 < (16 : Byte).toNat ∧
    (halfOf 0 0).toNat < 1 ∧ (halfOf 1 0).toNat < (halfOf 2 0).toNat ∧ (halfOf 2 0).toNat ≤ (halfOf 2 0).toNat ∧
    8 ≤ (8 : Byte).toNat := by
  refine ⟨rfl, ?_, by decide +kernel⟩
  rintro v (rfl | rfl) <;> decide +kernel

/-- Parameters of a SET_LANE of lane `l` with FLAGS `f`. -/
def laneParams (l f : Byte) : Vector Byte 12 := #v[l, f, 2, 1, 0, 100, 0, 200, 0, 0, 0, 7]

theorem test_hyp_SetLaneActsByTheLaneState :
    (∀ f : Byte, f = 0 ∨ f = 1 ∨ f = 3 → ∀ l : LaneNo,
      ((laneOf (withParams (laneParams (BitVec.ofNat 8 l.val) f) busy).params).map Prod.fst) = some l) ∧
    busy.inReset = false ∧ (busy.lane 0).state = .measuring ∧ (busy.lane 1).state = .clear ∧ (busy.lane 1).edge = none ∧
    (busy.lane 2).state = .missing ∧ (busy.lane 3).state = .jammed ∧ (bare.lane 0).state = .off ∧ bare.run = .run ∧
    (calm.lane 0).state = .off ∧ calm.run ≠ .run ∧
    ((after .start { readyLine with lanes := readyLine.lanes.map (fun x => { x with filter := ⟨.high, 0⟩ }) }).lane 1).state
      = .settling := by
  refine ⟨?_, by decide +kernel⟩
  rintro f (rfl | rfl | rfl) <;> decide +kernel

theorem test_hyp_LaneAndStationAreReadBack :
    busy.inReset = false ∧ (0 : Byte).toNat = (0 : LaneNo).val ∧ (3 : Byte).toNat = (3 : LaneNo).val ∧
    4 ≤ (4 : Byte).toNat ∧ (7 : Byte).toNat = (7 : StationNo).val ∧ 8 ≤ (8 : Byte).toNat ∧
    (busy.station 3).guardMark = some 10090 ∧ (busy.station 0).guardMark = none := by decide +kernel

theorem test_hyp_LeadEdgeStartsAnItem :
    busy.inReset = false ∧ busy.Sound ∧ (busy.lane 1).edge ≠ some (edgeTo (activeLevel (busy.lane 1).polarity)) ∧
    busy = finishTick busy ∧ (busy.lane 1).state = .clear ∧ busy.run = .run ∧ busy.items.length < 32 :=
  ⟨rfl, sound_busy, by decide +kernel⟩

/-- The last free slot, with an edge of the lead sense still to take. -/
theorem test_hyp_LeadEdgeTakesTheLastSlot :
    ({ crowded with items := crowded.items.tail } : State).Sound ∧ crowded.items.tail.length = 31 ∧
    edgeTo (activeLevel (crowded.lane 1).polarity) = .rising ∧ (crowded.lane 1).state = .clear :=
  ⟨State.sound_of_check (by decide +kernel), by decide +kernel⟩

theorem test_hyp_LeadEdgeWithoutASlotIsMissed :
    crowded.inReset = false ∧ crowded = finishTick crowded ∧ (crowded.lane 1).state = .clear ∧ crowded.run = .run ∧
    crowded.items.length = 32 ∧ (crowded.lane 1).missed ≠ 255 ∧ (busy.lane 0).state ≠ .clear ∧ draining.run ≠ .run := by
  decide +kernel

/-- The shortest item that is kept. -/
theorem test_hyp_TrailingEdgeEndsTheMeasurement :
    busy.inReset = false ∧ busy.Sound ∧ (busy.lane 0).edge = none ∧ (busy.lane 0).state = .measuring ∧
    (busy.lane 0).measurement = some ⟨6, 75525⟩ ∧ measured ∈ busy.items ∧ measured.tag = 6 ∧ (75525 : Pos) ≠ busy.p ∧
    (10 : Half).toNat = (busy.p - measured.lead).toNat ∧ measured.snapshot.minLength.toNat ≤ (10 : Half).toNat ∧
    busy = finishTick busy ∧ edgeTo (inactiveLevel (busy.lane 0).polarity) = .falling :=
  ⟨rfl, sound_busy, by decide +kernel⟩

/-- The busy line with MIN_LENGTH 11 for the object on lane 0, which is then short. -/
def shortItem : ItemRecord := { measured with snapshot := { measured.snapshot with minLength := 11 } }

def shortBusy : State := { busy with items := [fired, listed, waitingRec, shortItem] }

theorem test_hyp_TrailingEdgeOfAShortItem :
    shortBusy.inReset = false ∧ shortBusy.Sound ∧ shortBusy = finishTick shortBusy ∧ shortItem ∈ shortBusy.items ∧ shortItem.tag = 6 ∧
    (10 : Half).toNat = (shortBusy.p - shortItem.lead).toNat ∧ (10 : Half).toNat < shortItem.snapshot.minLength.toNat :=
  ⟨rfl, State.sound_of_check (by decide +kernel), by decide +kernel⟩

theorem test_hyp_LaneReturnsWhenTheObjectLeaves :
    (({ lane1 with disablePending := true } : Lane).disablePending = true) ∧
    (({ lane1 with settingsPending := true } : Lane).disablePending = false ∧
      ({ lane1 with settingsPending := true } : Lane).settingsPending = true) ∧
    (lane1.disablePending = false ∧ lane1.settingsPending = false) ∧
    (busy.inReset = false ∧ (busy.lane 2).state = .missing ∧ (busy.lane 2).edge = none ∧ (busy.lane 3).state = .jammed ∧
      (busy.lane 3).edge = none ∧ (busy.lane 1).state = .clear ∧ (bare.lane 0).state = .off ∧
      ({ lane1 with state := .settling, filter := ⟨.high, 0⟩ } : Lane).state = .settling) := by decide +kernel

theorem test_hyp_JamRetiresTheItemOverlength :
    ({ busy with p := 75525 } : State).inReset = false ∧ (({ busy with p := 75525 } : State).lane 0).state = .measuring ∧
    (({ busy with p := 75525 } : State).lane 0).measurement = some ⟨6, 75525⟩ ∧ (busy.lane 1).state ≠ .measuring ∧
    (busy.lane 0).measurement = some ⟨6, 75525⟩ ∧ (75525 : Pos) ≠ busy.p := by decide +kernel

theorem test_hyp_RetirementHandsTheRecordOver :
    busy.liveRecord 99 = none ∧ full.liveRecord 9 = none ∧ busy.liveRecord 7 = some listed ∧ busy.liveRecord 5 = some waitingRec ∧
    busy.queue.length < 16 ∧ busy.backlog = [] ∧
    ({ busy with queue := List.replicate 15 (outcomeOf ended .passed) } : State).queue.length < 16 ∧ full.liveRecord 7 = some listed ∧ 16 ≤ full.queue.length ∧
    full.backlog ≠ [] := by decide +kernel

theorem test_hyp_NextDetectionTakesTheHead :
    busy.inReset = false ∧ busy.Sound ∧ busy.announce = [5] ∧ calm.announce = [] := ⟨rfl, sound_busy, rfl, rfl⟩

theorem test_hyp_ReadItemReportsTheRecord :
    (withParams #v[9, 0, 0, 0, 0, 0, 0, 0, 0, 0, 0, 0] full).Sound ∧ full.items[0]? = some ended ∧ ended.tag = 9 ∧
    full.items[4]? = some measured ∧ ∀ r ∈ full.items, r.tag ≠ 99 :=
  ⟨State.sound_of_check (by decide +kernel), by decide +kernel⟩

theorem test_hyp_DeadlinePassesByDefault :
    (({ busy with p := 75035 } : State).liveRecord 5 = some waitingRec ∧ waitingRec.state = .pending ∧
      waitingRec.d = 75035 ∧ waitingRec.snapshot.defaultKind = .pass) ∧
    busy.liveRecord 7 = some listed ∧ listed.state ≠ .pending ∧ waitingRec.d ≠ busy.p ∧ busy.liveRecord 99 = none := by
  decide +kernel

/-- The due line with the fields of station 2 changed, and record 4 holding its default verdict. -/
def dueAt (f : StationRecord → StationRecord) (v : Verdict) : State :=
  let s := due.setStation 2 { due.station 2 with record := f (due.station 2).record }
  { s with items := s.items.map (fun x => if x.tag = 4 then { x with verdict := some v } else x) }

def dueVerdict : Verdict := ⟨.defaulted, 2, 0, 7⟩

/-- Each clause: a disabled station, a station of another lane, an on position behind P, one that loses to the listed order
it conflicts with, one that wins, and one that bumps. -/
theorem test_hyp_DeadlineEjectsByDefault :
    due.liveRecord 4 = some dueRec ∧ dueRec.state = .pending ∧ dueRec.d = due.p ∧ dueRec.snapshot.defaultKind = .eject ∧
    dueRec.length = some 40 ∧
    ((dueAt id dueVerdict).station 2).record.enable = true ∧ ((dueAt id dueVerdict).station 2).record.lane = dueRec.lane ∧
    ((dueAt (fun r => { r with enable := false }) dueVerdict).station 2).record.enable = false ∧
    ((dueAt (fun r => { r with lane := 0 }) dueVerdict).station 2).record.lane ≠ dueRec.lane ∧
    isAhead due.p (computeOrder 9550 40 450 Profile.reset).onPos = false ∧
    isAhead due.p (computeOrder 9550 40 1000 Profile.reset).onPos = true ∧
    (dueAt id dueVerdict).arbitrate 4 dueVerdict 10550 = some [] ∧
    (dueAt id dueVerdict).arbitrate 4 dueVerdict 10299 = none ∧
    (dueAt id ⟨.defaulted, 2, 0, 4⟩).arbitrate 4 ⟨.defaulted, 2, 0, 4⟩ 10101 = some [7] := by decide +kernel

theorem test_hyp_KeyChecksComeFirstAndRefusalsChangeNothing :
    busy.inReset = false ∧ (∀ r ∈ busy.items, r.tag = 99 → r.state = .retired) ∧
    (∀ r ∈ full.items, r.tag = 9 → r.state = .retired) ∧ busy.liveRecord 5 = some waitingRec ∧
    waitingRec.lead.setWidth 16 ≠ halfOf 0x1D 0x25 ∧ waitingRec.lead.setWidth 16 = halfOf 0x1C 0x25 ∧
    (after .verdict busy).result ≠ .ok := by decide +kernel

/-- PENDING, COMMITTED, FIRING and MEASURING records with good keys, and the tests that a PENDING one meets. -/
theorem test_hyp_VerdictIsTestedInOrder :
    (busy.liveRecord 6 = some measured ∧ measured.lead.setWidth 16 = halfOf 0x06 0x27 ∧ measured.state = .measuring) ∧
    (busy.liveRecord 7 = some listed ∧ listed.lead.setWidth 16 = halfOf 0xF0 0x23 ∧ listed.state = .committed ∧
      listed.verdict = some ⟨.commanded, 2, 0, 5⟩) ∧
    (busy.liveRecord 8 = some fired ∧ fired.lead.setWidth 16 = halfOf 0x1E 0x23 ∧ fired.state = .firing ∧
      fired.verdict = some ⟨.defaulted, 3, 0, 7⟩) ∧
    (busy.liveRecord 5 = some waitingRec ∧ waitingRec.lead.setWidth 16 = halfOf 0x1C 0x25 ∧ waitingRec.state = .pending ∧
      waitingRec.length = some 60) ∧
    8 ≤ (8 : Byte).toNat ∧ (7 : Byte).toNat = (7 : StationNo).val ∧ (7 : Byte).toNat = (7 : ProfileNo).val ∧
    (busy.station 7).record.enable = false ∧ (busy.station 0).record.enable = true ∧ (busy.station 0).record.lane ≠ 1 ∧
    (busy.station 2).record.enable = true ∧ (busy.station 2).record.lane = 1 ∧
    isAhead busy.p (computeOrder 9500 60 500 Profile.reset).onPos = false ∧
    isAhead busy.p (computeOrder 9500 60 1000 Profile.reset).onPos = true ∧
    busy.arbitrate 5 ⟨.commanded, 2, 0, 5⟩ 10299 = none := by decide +kernel

theorem test_hyp_VerdictCommitsTheWinner :
    busy.inReset = false ∧ busy.liveRecord 5 = some waitingRec ∧ waitingRec.lead.setWidth 16 = halfOf 0x1C 0x25 ∧
    waitingRec.state = .pending ∧ (5 : Byte).toNat = (5 : Priority).val ∧ (busy.station 2).record.enable = true ∧
    (busy.station 2).record.lane = waitingRec.lane ∧ waitingRec.length = some 60 ∧
    computeOrder waitingRec.lead 60 (busy.station 2).record.offset (busy.profile 0) = ⟨10500, .time 10⟩ ∧
    isAhead busy.p 10500 = true ∧ busy.arbitrate 5 ⟨.commanded, 2, 0, 5⟩ 10500 = some [] := by decide +kernel

theorem test_hyp_PassAndAbortRetireOrRefuse :
    busy.inReset = false ∧ busy.liveRecord 6 = some measured ∧ measured.state = .measuring ∧
    busy.liveRecord 5 = some waitingRec ∧ waitingRec.state = .pending ∧ busy.liveRecord 7 = some listed ∧
    listed.state = .committed ∧ busy.liveRecord 8 = some fired ∧ fired.state = .firing ∧
    fired.lead.setWidth 16 = halfOf 0x1E 0x23 := by decide +kernel

theorem test_hyp_SetStationWritesAFreeStation :
    busy.inReset = false ∧
    (∀ v : Vector Byte 12,
      v = #v[0, 0, 0, 1, 0, 1, 0, 0, 0, 1, 0, 0] ∨ v = #v[7, 3, 3, 255, 255, 255, 255, 255, 255, 255, 255, 0] →
      v[0].toNat < 8 ∧ v[1].toNat ≤ 3 ∧ v[2].toNat < 4 ∧ 1 ≤ (halfOf v[3] v[4]).toNat ∧
      1 ≤ (halfOf v[5] v[6]).toNat ∧ 1 ≤ (halfOf v[9] v[10]).toNat) ∧
    ((busy.station 2).list ≠ [] ∧ (busy.station 3).engine = .on pulse ∧ (busy.station 4).engine = .recovery 5 ∧
      (busy.station 0).list = [] ∧ (busy.station 0).engine = .offReady ∧ (busy.station 1).engine = .disabled) ∧
    8 ≤ (8 : Byte).toNat ∧ 3 < (4 : Byte).toNat ∧ 4 ≤ (4 : Byte).toNat ∧ (halfOf 0 0).toNat < 1 := by
  refine ⟨rfl, ?_, by decide +kernel⟩
  rintro v (rfl | rfl) <;> decide +kernel

theorem test_hyp_ProfileAndThresholdAreSetInRange :
    busy.inReset = false ∧
    (∀ v : Vector Byte 12,
      v = #v[0, 0, 0x00, 0xF8, 1, 0, 0x00, 0xF8, 0, 0, 0, 0] ∨ v = #v[7, 1, 0xFF, 0x07, 255, 255, 0xFF, 0x07, 0, 0, 0, 0] →
      v[0].toNat < 8 ∧ v[1].toNat ≤ 1 ∧ -2048 ≤ (halfOf v[2] v[3]).toInt ∧ (halfOf v[2] v[3]).toInt ≤ 2047 ∧
      1 ≤ (halfOf v[4] v[5]).toNat ∧ -2048 ≤ (halfOf v[6] v[7]).toInt ∧ (halfOf v[6] v[7]).toInt ≤ 2047) ∧
    (8 ≤ (8 : Byte).toNat ∧ 1 < (2 : Byte).toNat ∧ (halfOf 0xFF 0xF7).toInt < -2048 ∧ 2047 < (halfOf 0x00 0x08).toInt ∧
      (halfOf 0 0).toNat < 1 ∧ (31 : Byte).toNat ≤ 31 ∧ 32 ≤ (32 : Byte).toNat) ∧
    exec .start busy = .next (after .start busy) := by
  refine ⟨rfl, ?_, by decide +kernel, exec_after _ _⟩
  rintro v (rfl | rfl) <;> decide +kernel

/-- R106: a span of LENGTH + SPAN_EXTRA, and one held at 1. -/
theorem test_hyp_OrdersAreComputedFromTheRecords :
    Profile.reset.widthKind = .time ∧ computeOrder 100 50 1000 ⟨0, .span, 10, 5⟩ = ⟨1100, .span 1155⟩ ∧
    1 ≤ ((50 : Half).toNat : Int) + (5 : Half).toInt ∧ computeOrder 100 50 1000 ⟨0xFFFF, .span, 10, 0xFFCE⟩ = ⟨1099, .span 1100⟩ ∧
    ((50 : Half).toNat : Int) + (0xFFCE : Half).toInt < 1 := by decide +kernel

theorem test_hyp_ArbitrationIsByPriorityThenAge :
    busy.Sound ∧ busy.spacingLaw ∧ busy.arbitrate 5 ⟨.commanded, 2, 0, 5⟩ 10299 = none ∧
    busy.arbitrate 5 ⟨.commanded, 2, 0, 4⟩ 10299 = some [7] ∧ busy.arbitrate 5 ⟨.commanded, 2, 0, 5⟩ 10300 = some [] ∧
    busy.arbitrate 5 ⟨.commanded, 3, 0, 5⟩ 10090 = none ∧ busy.arbitrate 5 ⟨.commanded, 3, 0, 5⟩ 10091 = some [] :=
  ⟨sound_busy, spaced_busy, by decide +kernel⟩

theorem test_hyp_GuardMarkReachedBecomesInvalid :
    ({ busy with p := 10090 } : State).inReset = false ∧
    (({ busy with p := 10090 } : State).station 3).guardMark = some 10090 ∧ (busy.station 3).guardMark ≠ some busy.p := by
  decide +kernel

/-- The busy line at the on position of the listed order, with the engine of station 2 as given. -/
def arriving (e : Engine) : State := { busy.setStation 2 { busy.station 2 with engine := e } with p := 10200 }

theorem test_hyp_ArrivalFiresOrCollides :
    (arriving .offReady).Sound ∧ (arriving (.recovery 1)).Sound ∧ ((arriving .offReady).station 2).list = [7] ∧
    listed ∈ (arriving .offReady).items ∧ listed.tag = 7 ∧ listed.order = some ⟨10200, .time 10⟩ ∧
    (arriving .offReady).p = 10200 ∧ busy.p ≠ 10200 ∧ (busy.station 0).list = [] :=
  ⟨State.sound_of_check (by decide +kernel), State.sound_of_check (by decide +kernel), by decide +kernel⟩

/-- The busy line at the on position of a listed order of station 3, whose engine is ON. -/
def colliding : State :=
  { busy with
    p := 10200, items := [fired, { listed with verdict := some ⟨.commanded, 3, 0, 5⟩ }, waitingRec, measured],
    stations := (stations.set 2 (station 1 .offReady)).set 3 { station 1 (.on pulse) with list := [7] } }

theorem test_hyp_ArrivalAtAnEngineThatIsOn :
    colliding.Sound ∧ colliding.inReset = false ∧ (colliding.station 3).list = [7] ∧
    (colliding.station 3).engine = .on pulse := ⟨State.sound_of_check (by decide +kernel), by decide +kernel⟩

theorem test_hyp_TimePulseAndRecoveryEndAtTheirCounts :
    busy.inReset = false ∧ (busy.station 3).tickLate = false ∧ (busy.station 3).engine = .on ⟨8, .time 10 10, 4⟩ ∧
    (4 : Half) ≠ 10 ∧ (takeLateTick 3 { busy.setStation 3 { busy.station 3 with tickLate := true } with k := 3 }).station 3 =
      { busy.station 3 with engine := .on ⟨8, .time 10 10, 5⟩ } ∧ ({ station 1 (.on ⟨8, .time 10 10, 10⟩) with tickLate := false } : Station).engine =
      .on ⟨8, .time 10 10, 10⟩ ∧ (busy.station 4).engine ≠ .recovery 0 ∧ (busy.station 4).tickLate = false ∧
    (station 1 (.recovery 0)).engine = .recovery 0 ∧ (station 1 (.recovery 0)).tickLate = false := by decide +kernel

theorem test_hyp_SpanPulseEndsAtItsOffPositionOrMaxOn :
    (station 1 (.on ⟨8, .span 10000 1000, 1000⟩)).tickLate = false ∧ (10000 : Pos) = busy.p ∧ (10001 : Pos) ≠ busy.p ∧
    (1000 : Half) = 1000 ∧ (999 : Half) ≠ 1000 ∧ busy.inReset = false := by decide +kernel

theorem test_hyp_NextOutcomeDeliversTheHead :
    (calm.inReset = false ∧ calm.queue = []) ∧
    full.queue = outcomeOf ended .passed :: List.replicate 15 (outcomeOf ended .passed) ∧ full.Sound ∧
    full.backlog = [9] ∧ ({ full with queue := List.replicate 15 (outcomeOf ended .passed) } : State).queue.length < 16 ∧
    full.heldRecord 9 = some ended ∧ ended.outcome = some .passed ∧ 16 ≤ full.queue.length ∧
    (after .pass (withParams #v[5, 0x1C, 0x25, 0, 0, 0, 0, 0, 0, 0, 0, 0] busy)).queue = [outcomeOf waitingRec .passed] ∧
    (after .pass (withParams #v[5, 0x1C, 0x25, 0, 0, 0, 0, 0, 0, 0, 0, 0] busy)).backlog = [] :=
  ⟨by decide +kernel, by decide +kernel, sound_full, by decide +kernel⟩

theorem test_hyp_OutcomesWaitInRetirementOrder :
    full.Sound ∧ full.inReset = false ∧ full.waiting.length = 17 ∧ exec .nextOutcome full = .next (after .nextOutcome full) ∧
    exec .halt full = .next (after .halt full) ∧ (after .halt full).waiting.length = 21 :=
  ⟨sound_full, rfl, by decide +kernel, exec_after _ _, exec_after _ _, by decide +kernel⟩

theorem test_hyp_StepKeepsSoundness :
    full.Sound ∧ full.spacingLaw ∧ step { full with pending := [.halt] } = .next (after .halt full) ∧
    ({ full with pending := [.halt] } : State).Sound ∧ ({ full with pending := [.halt] } : State).spacingLaw :=
  ⟨sound_full, spaced_full, exec_after .halt full, State.sound_of_check (by decide +kernel),
   State.spacing_of_check (by decide +kernel)⟩

end Sys2Proof.Tests
end

section
/-! The records, the lanes and the rest states keep one another: what one event changes, and that each keeps it. -/

namespace Sys2Proof.Machine

/-! ### Run states, live records and views -/

theorem State.running_iff {s : State} : s.running = true ↔ s.run = .run ∨ s.run = .drain := by
  simp [State.running]

theorem State.resting_iff {s : State} : s.running = false ↔ s.run = .idle ∨ s.run = .halt := by
  cases h : s.run <;> simp [State.running, h]

theorem State.hasLive_eq_false {s : State} : s.hasLive = false ↔ ∀ r ∈ s.items, r.state = .retired := by
  simp [State.hasLive, ItemRecord.isLive]

theorem ItemRecord.isLive_iff {r : ItemRecord} : r.isLive = true ↔ r.state ≠ .retired := by
  simp [ItemRecord.isLive]

theorem Engine.isOn_iff {e : Engine} : e.isOn = true ↔ ∃ q, e = .on q := by
  cases e <;> simp [Engine.isOn]

/-- Two records of the table with one tag are one record (R55). -/
theorem State.tableLaw.tag_inj {s : State} (h : s.tableLaw) {r x : ItemRecord} (hr : r ∈ s.items) (hx : x ∈ s.items)
    (e : x.tag = r.tag) : x = r :=
  List.inj_on_of_nodup_map h.2 hx hr e

/-- The live record of a tag is found by it. -/
theorem State.tableLaw.liveRecord_eq {s : State} (h : s.tableLaw) {r : ItemRecord} (hr : r ∈ s.items)
    (hl : r.isLive = true) : s.liveRecord r.tag = some r := by
  cases hf : s.liveRecord r.tag with
  | none => exact absurd (List.find?_eq_none.1 hf r hr) (by simp [hl])
  | some x =>
    obtain ⟨hx, hxt, -⟩ := liveRecord_spec hf
    rw [h.tag_inj hr hx hxt]

/-! ### The laws that hold together -/

/-- An engine is ON only for a FIRING record (R120), and no two engines are ON for one record. -/
def State.pulseLaw (s : State) : Prop :=
  (∀ n q, (s.station n).engine = .on q → ∃ r ∈ s.items, r.tag = q.tag ∧ r.state = .firing) ∧
  ∀ n m q q', (s.station n).engine = .on q → (s.station m).engine = .on q' → q'.tag = q.tag → m = n

/-- The laws of the table and the backlog; `P` is what each record meets: the presence of Table 4.1, or, within an event,
something that leads to it. -/
structure State.Filed (P : ItemRecord → Prop) (s : State) : Prop where
  table   : s.tableLaw
  backlog : s.backlogLaw
  records : ∀ r ∈ s.items, P r

/-- The laws that records, lanes, engines and rest states keep together. -/
structure State.Coupled (P : ItemRecord → Prop) (s : State) : Prop extends State.Filed P s where
  pulses : s.pulseLaw
  lanes  : s.laneLaw
  rest   : s.restLaw

theorem State.Sound.pulseLaw {s : State} (h : s.Sound) : s.pulseLaw := by
  obtain ⟨hon, -, -⟩ := h.engines
  refine ⟨fun n q hq => ?_, fun n m q q' hq hq' ht => ?_⟩
  · obtain ⟨r, hr, hrt, hrs, -⟩ := hon n q hq
    exact ⟨r, hr, hrt, hrs⟩
  · obtain ⟨r, hr, hrt, -, hv, -⟩ := hon n q hq
    obtain ⟨x, hx, hxt, -, hw, -⟩ := hon m q' hq'
    have e : x = r := h.table.tag_inj hr hx (hxt.trans (ht.trans hrt.symm))
    subst e
    exact Option.some.inj (hw.symm.trans hv)

theorem State.Sound.coupled {s : State} (h : s.Sound) : s.Coupled ItemRecord.presence where
  table := h.table
  backlog := h.backlog
  records := h.presence
  pulses := h.pulseLaw
  lanes := h.lanes
  rest := h.rest

section
variable {P Q : ItemRecord → Prop} {s s' : State}

theorem State.Coupled.mono (h : s.Coupled P) (hPQ : ∀ r ∈ s.items, P r → Q r) : s.Coupled Q :=
  { h with records := fun r hr => hPQ r hr (h.records r hr) }

/-- A live record is on the belt only in RUN or DRAIN (R16). -/
theorem State.Coupled.running_of_live (h : s.Coupled P) {r : ItemRecord} (hr : r ∈ s.items) (hl : r.state ≠ .retired) :
    s.running = true := by
  by_contra hn
  have hrest := h.rest (State.resting_iff.1 (by simpa using hn))
  exact hl (State.hasLive_eq_false.1 hrest.1 r hr)

/-- A lane holds a measurement exactly while it is MEASURING (R28). -/
theorem State.Coupled.measuring_iff (h : s.Coupled P) (l : LaneNo) :
    (s.lane l).state = .measuring ↔ (s.lane l).measurement ≠ none := h.lanes.1 l

/-- A measurement names a MEASURING record of its lane, with its jam position (R28, R36). -/
theorem State.Coupled.measured (h : s.Coupled P) {l : LaneNo} {m : Measurement} (hm : (s.lane l).measurement = some m) :
    ∃ r ∈ s.items, r.tag = m.tag ∧ r.state = .measuring ∧ r.lane = l ∧ m.jam = jamPosition r.lead r.snapshot.maxLength :=
  h.lanes.2.1 l m hm

/-- A MEASURING record is measured by its lane, and not past its jam position (R42). -/
theorem State.Coupled.measures (h : s.Coupled P) {r : ItemRecord} (hr : r ∈ s.items) (hs : r.state = .measuring) :
    (s.lane r.lane).measurement.map Measurement.tag = some r.tag ∧
      (s.p - r.lead).toNat ≤ r.snapshot.maxLength.toNat + 1 := h.lanes.2.2 r hr hs

/-- No engine is ON for a record that is not FIRING. -/
theorem State.Coupled.pulse_ne (h : s.Coupled P) {r : ItemRecord} (hr : r ∈ s.items) (hs : r.state ≠ .firing)
    {n : StationNo} {q : Pulse} (hq : (s.station n).engine = .on q) : q.tag ≠ r.tag := by
  obtain ⟨x, hx, hxt, hxs⟩ := h.pulses.1 n q hq
  intro e
  exact hs (h.table.tag_inj hr hx (hxt.trans e) ▸ hxs)

/-- No lane measures a record that is not MEASURING. -/
theorem State.Coupled.measurement_ne (h : s.Coupled P) {r : ItemRecord} (hr : r ∈ s.items) (hs : r.state ≠ .measuring)
    {l : LaneNo} {m : Measurement} (hm : (s.lane l).measurement = some m) : m.tag ≠ r.tag := by
  obtain ⟨x, hx, hxt, hxs, -⟩ := h.measured hm
  intro e
  exact hs (h.table.tag_inj hr hx (hxt.trans e) ▸ hxs)

/-! ### What changes no record -/

/-- The rest law, where the run state stays, records stay and no engine, lane or advance begins anything. -/
theorem State.restLaw.congr (h : s.restLaw) (hrun : s'.run = s.run) (hi : s'.items = s.items)
    (he : s.running = false → ∀ n, (s'.station n).engine.isOn = true → (s.station n).engine.isOn = true)
    (hl : s.running = false → ∀ l, (s.lane l).state = .off → (s'.lane l).state = .off)
    (ha : s.running = false → s'.advanceDue = true → s.advanceDue = true) : s'.restLaw := by
  intro hr
  rw [hrun] at hr
  have hq : s.running = false := State.resting_iff.2 hr
  obtain ⟨hlive, hon, hoff, hadv⟩ := h hr
  refine ⟨by simpa [State.hasLive, hi] using hlive, fun n => ?_, fun l => hl hq l (hoff l), ?_⟩
  · exact Bool.eq_false_iff.2 fun e => Bool.eq_false_iff.1 (hon n) (he hq n e)
  · exact Bool.eq_false_iff.2 fun e => Bool.eq_false_iff.1 hadv (ha hq e)

/-- An event that changes no record, moves no lane into or out of MEASURING and turns no engine ON. -/
theorem State.Coupled.congr (h : s.Coupled P) (hi : s'.items = s.items) (hb : s'.backlog = s.backlog) (hp : s'.p = s.p)
    (he : ∀ n q, (s'.station n).engine = .on q → ∃ q', (s.station n).engine = .on q' ∧ q'.tag = q.tag)
    (hm : ∀ l, (s'.lane l).measurement = (s.lane l).measurement)
    (hs : ∀ l, (s'.lane l).state = .measuring ↔ (s.lane l).state = .measuring) (hr : s'.restLaw) : s'.Coupled P where
  table := by simpa [State.tableLaw, hi] using h.table
  backlog := by simpa [State.backlogLaw, hi, hb] using h.backlog
  pulses := by
    refine ⟨fun n q hq => ?_, fun n m q q' hq hq' ht => ?_⟩
    · obtain ⟨q₁, hq₁, ht⟩ := he n q hq
      simpa [hi, ht] using h.pulses.1 n q₁ hq₁
    · obtain ⟨q₁, hq₁, ht₁⟩ := he n q hq
      obtain ⟨q₂, hq₂, ht₂⟩ := he m q' hq'
      exact h.pulses.2 n m q₁ q₂ hq₁ hq₂ (by rw [ht₂, ht, ht₁])
  lanes := by simpa [State.laneLaw, hi, hp, hm, hs] using h.lanes
  records := by simpa [hi] using h.records
  rest := hr

/-! ### What changes one record -/

/-- The lists `items'` and `backlog'` differ from `items` and `backlog` in the record and the reference of `t` alone, and no tag is new. -/
structure OneRecord (t : Byte) (items : List ItemRecord) (backlog : List Byte) (items' : List ItemRecord)
    (backlog' : List Byte) : Prop where
  others  : ∀ x, x.tag ≠ t → (x ∈ items' ↔ x ∈ items)
  tags    : (items'.map ItemRecord.tag).Sublist (items.map ItemRecord.tag)
  waiting : ∀ u, u ≠ t → (u ∈ backlog' ↔ u ∈ backlog)
  own     : t ∈ backlog' ↔ ∃ x ∈ items', x.tag = t ∧ x.state = .retired
  nodup   : backlog'.Nodup

/-- A live record's tag is not in the backlog (R139). -/
theorem State.Filed.not_mem_backlog (h : s.Filed P) {r : ItemRecord} (hr : r ∈ s.items) (hl : r.state ≠ .retired) :
    r.tag ∉ s.backlog := by
  intro hb
  obtain ⟨x, hx, hxt, hxs⟩ := (h.backlog.2 r.tag).1 hb
  exact hl (h.table.tag_inj hr hx hxt ▸ hxs)

theorem mem_freeSlot {t : Byte} {x : ItemRecord} : x ∈ (s.freeSlot t).items ↔ x ∈ s.items ∧ x.tag ≠ t := by
  simp [State.freeSlot]

/-- The slot of a live record becomes free. -/
theorem State.Filed.oneRecord_freeSlot (h : s.Filed P) {r : ItemRecord} (hr : r ∈ s.items) (hl : r.state ≠ .retired) :
    OneRecord r.tag s.items s.backlog (s.freeSlot r.tag).items s.backlog where
  others x hx := by simp [State.freeSlot, hx]
  tags := (List.filter_sublist).map _
  waiting _ _ := .rfl
  own := by
    refine ⟨fun hb => absurd hb (h.not_mem_backlog hr hl), ?_⟩
    rintro ⟨x, hx, hxt, -⟩
    exact absurd hxt (mem_freeSlot.1 hx).2
  nodup := h.backlog.1

theorem tags_modifyRecord (s : State) (t : Byte) {f : ItemRecord → ItemRecord} (hf : ∀ x, (f x).tag = x.tag) :
    (s.modifyRecord t f).items.map ItemRecord.tag = s.items.map ItemRecord.tag := by
  simp only [State.modifyRecord, List.map_map]
  refine List.map_congr_left fun x _ => ?_
  by_cases e : x.tag = t <;> simp [e, hf]

/-- The records after a change of the record of `t`: the others as they were, and the changed one. -/
theorem mem_modifyRecord {t : Byte} {f : ItemRecord → ItemRecord} {x : ItemRecord} :
    x ∈ (s.modifyRecord t f).items ↔ (x ∈ s.items ∧ x.tag ≠ t) ∨ ∃ r ∈ s.items, r.tag = t ∧ x = f r := by
  simp only [State.modifyRecord, List.mem_map]
  constructor
  · rintro ⟨r, hr, rfl⟩
    by_cases e : r.tag = t
    · exact .inr ⟨r, hr, e, by simp [e]⟩
    · exact .inl ⟨by simpa [e] using hr, by simp [e]⟩
  · rintro (⟨hx, e⟩ | ⟨r, hr, e, rfl⟩)
    · exact ⟨x, hx, by simp [e]⟩
    · exact ⟨r, hr, by simp [e]⟩

theorem State.Filed.mem_modifyRecord_own (h : s.Filed P) {r : ItemRecord} (hr : r ∈ s.items)
    {f : ItemRecord → ItemRecord} {x : ItemRecord}
    (hx : x ∈ (s.modifyRecord r.tag f).items) (ht : x.tag = r.tag) : x = f r := by
  obtain ⟨-, hne⟩ | ⟨y, hy, hyt, rfl⟩ := mem_modifyRecord.1 hx
  · exact absurd ht hne
  · rw [h.table.tag_inj hr hy hyt]

theorem mem_modifyRecord_other {t : Byte} {f : ItemRecord → ItemRecord} (hf : ∀ x, (f x).tag = x.tag) {x : ItemRecord}
    (hx : x.tag ≠ t) : x ∈ (s.modifyRecord t f).items ↔ x ∈ s.items := by
  rw [mem_modifyRecord]
  constructor
  · rintro (⟨hm, -⟩ | ⟨r, -, e, rfl⟩)
    · exact hm
    · exact absurd ((hf r).trans e) hx
  · exact fun hm => .inl ⟨hm, hx⟩

/-- A live record is changed and stays live. -/
theorem State.Filed.oneRecord_modifyRecord (h : s.Filed P) {r : ItemRecord} (hr : r ∈ s.items)
    (hl : r.state ≠ .retired) {f : ItemRecord → ItemRecord} (hf : ∀ x, (f x).tag = x.tag) (hfl : (f r).state ≠ .retired) :
    OneRecord r.tag s.items s.backlog (s.modifyRecord r.tag f).items s.backlog where
  others x hx := mem_modifyRecord_other hf hx
  tags := by rw [tags_modifyRecord s r.tag hf]
  waiting _ _ := .rfl
  own := by
    refine ⟨fun hb => absurd hb (h.not_mem_backlog hr hl), ?_⟩
    rintro ⟨x, hx, hxt, hxs⟩
    exact absurd hxs (h.mem_modifyRecord_own hr hx hxt ▸ hfl)
  nodup := h.backlog.1

/-- A live record stays in its slot as RETIRED and joins the backlog (R70, R140). -/
theorem State.Filed.oneRecord_backlogged (h : s.Filed P) {r : ItemRecord} (hr : r ∈ s.items)
    (hl : r.state ≠ .retired) {f : ItemRecord → ItemRecord} (hf : ∀ x, (f x).tag = x.tag) (hfl : (f r).state = .retired) :
    OneRecord r.tag s.items s.backlog (s.modifyRecord r.tag f).items (s.backlog ++ [r.tag]) where
  others x hx := mem_modifyRecord_other hf hx
  tags := by rw [tags_modifyRecord s r.tag hf]
  waiting u hu := by simp [hu]
  own := by
    exact ⟨fun _ => ⟨f r, mem_modifyRecord.2 (.inr ⟨r, hr, rfl, rfl⟩), hf r, hfl⟩, fun _ => by simp⟩
  nodup := by
    rw [List.nodup_append]
    refine ⟨h.backlog.1, by simp, ?_⟩
    simp only [List.mem_singleton, forall_eq]
    rintro a ha rfl
    exact h.not_mem_backlog hr hl ha

/-- The table after a change of the record of one tag. -/
theorem State.Filed.change (h : s.Filed P) {t : Byte} (hone : OneRecord t s.items s.backlog s'.items s'.backlog)
    (hQ : ∀ x ∈ s'.items, Q x) : s'.Filed Q where
  table := ⟨by simpa using hone.tags.length_le.trans (by simpa using h.table.1), h.table.2.sublist hone.tags⟩
  backlog := by
    refine ⟨hone.nodup, fun u => ?_⟩
    by_cases hu : u = t
    · exact hu ▸ hone.own
    · rw [hone.waiting u hu, h.backlog.2 u]
      refine exists_congr fun x => ?_
      constructor
      · rintro ⟨hx, hxt, hxs⟩
        exact ⟨(hone.others x (hxt.trans_ne hu)).2 hx, hxt, hxs⟩
      · rintro ⟨hx, hxt, hxs⟩
        exact ⟨(hone.others x (hxt.trans_ne hu)).1 hx, hxt, hxs⟩
  records := hQ

/-- An event that ends or changes one live record `r`, which is not MEASURING after it: no lane measures it any more, and
at most the engine of station `owner` is ON for it, while it is FIRING. -/
theorem State.Coupled.change (h : s.Coupled P) {r : ItemRecord} (hr : r ∈ s.items) (hl : r.state ≠ .retired)
    (hone : OneRecord r.tag s.items s.backlog s'.items s'.backlog) (hp : s'.p = s.p) (hrun : s'.run = s.run)
    (owner : Option StationNo)
    (he : ∀ n q, (s'.station n).engine = .on q →
      (q.tag ≠ r.tag ∧ ∃ q', (s.station n).engine = .on q' ∧ q'.tag = q.tag) ∨
      (q.tag = r.tag ∧ owner = some n ∧ ∃ x ∈ s'.items, x.tag = r.tag ∧ x.state = .firing))
    (hm : ∀ l m, (s'.lane l).measurement = some m ↔ (s.lane l).measurement = some m ∧ m.tag ≠ r.tag)
    (hs : ∀ l, (s'.lane l).state = .measuring ↔ (s'.lane l).measurement ≠ none)
    (hown : ∀ x ∈ s'.items, x.tag = r.tag → x.state ≠ .measuring) (hQ : ∀ x ∈ s'.items, Q x) : s'.Coupled Q where
  toFiled := h.toFiled.change hone hQ
  pulses := by
    refine ⟨fun n q hq => ?_, fun n m q q' hq hq' ht => ?_⟩
    · obtain ⟨hne, q₁, hq₁, ht⟩ | ⟨ht, -, x, hx, hxt, hxs⟩ := he n q hq
      · obtain ⟨x, hx, hxt, hxs⟩ := h.pulses.1 n q₁ hq₁
        exact ⟨x, (hone.others x (by rw [hxt, ht]; exact hne)).2 hx, hxt.trans ht, hxs⟩
      · exact ⟨x, hx, hxt.trans ht.symm, hxs⟩
    · obtain ⟨hne, q₁, hq₁, ht₁⟩ | ⟨htr, hn, -⟩ := he n q hq <;>
      obtain ⟨hne', q₂, hq₂, ht₂⟩ | ⟨htr', hn', -⟩ := he m q' hq'
      · exact h.pulses.2 n m q₁ q₂ hq₁ hq₂ (by rw [ht₂, ht, ht₁])
      · exact absurd (ht.symm.trans htr') hne
      · exact absurd (ht.trans htr) hne'
      · exact Option.some.inj (hn'.symm.trans hn)
  lanes := by
    refine ⟨hs, fun l m hlm => ?_, fun x hx hxs => ?_⟩
    · obtain ⟨hlm', hne⟩ := (hm l m).1 hlm
      obtain ⟨x, hx, hxt, hxs, hxl, hj⟩ := h.measured hlm'
      exact ⟨x, (hone.others x (hxt.trans_ne hne)).2 hx, hxt, hxs, hxl, hj⟩
    · have hne : x.tag ≠ r.tag := fun e => hown x hx e hxs
      obtain ⟨hxm, hle⟩ := h.measures ((hone.others x hne).1 hx) hxs
      obtain ⟨m, hlm, hmt⟩ := Option.map_eq_some_iff.1 hxm
      refine ⟨?_, by rw [hp]; exact hle⟩
      rw [(hm x.lane m).2 ⟨hlm, hmt.trans_ne hne⟩, Option.map_some, hmt]
  rest := by
    intro hrest
    rw [hrun] at hrest
    exact absurd (h.running_of_live hr hl) (by simp [State.resting_iff.2 hrest])

/-! ### Nothing live -/

/-- With nothing live, no engine ON, every lane OFF and no advance waiting, the laws hold whatever the run state. -/
theorem State.Filed.coupled_of_rest (h : s.Filed P) (hlive : s.hasLive = false)
    (hon : ∀ n, (s.station n).engine.isOn = false)
    (hoff : ∀ l, (s.lane l).state = .off ∧ (s.lane l).measurement = none) (ha : s.advanceDue = false) : s.Coupled P where
  toFiled := h
  pulses := by
    have hne : ∀ n q, (s.station n).engine ≠ .on q := fun n q hq => by simpa [hq, Engine.isOn] using hon n
    exact ⟨fun n q hq => absurd hq (hne n q), fun n _ q _ hq _ _ => absurd hq (hne n q)⟩
  lanes := by
    refine ⟨fun l => by simp [hoff l], fun l m hm => by simp [hoff l] at hm, fun r hr hs => ?_⟩
    simp [State.hasLive_eq_false.1 hlive r hr] at hs
  rest _ := ⟨hlive, hon, fun l => (hoff l).1, ha⟩

/-- With nothing live no engine is ON. -/
theorem State.Coupled.engine_off (h : s.Coupled P) (hlive : s.hasLive = false) (n : StationNo) :
    (s.station n).engine.isOn = false := by
  refine Bool.eq_false_iff.2 fun e => ?_
  obtain ⟨q, hq⟩ := Engine.isOn_iff.1 e
  obtain ⟨r, hr, -, hs⟩ := h.pulses.1 n q hq
  simp [State.hasLive_eq_false.1 hlive r hr] at hs

/-- An OFF lane holds no measurement. -/
theorem State.Coupled.measurement_of_off (h : s.Coupled P) {l : LaneNo} (ho : (s.lane l).state = .off) :
    (s.lane l).measurement = none := by
  by_contra hm
  simp [(h.measuring_iff l).2 hm] at ho

end

end Sys2Proof.Machine
end

section
/-! Retirement, and the completion check of a drain. -/

namespace Sys2Proof.Machine

section
variable {P Q : ItemRecord → Prop} {s s' : State}

/-! ### Retirement and the drain completion check -/

@[simp] theorem dropListed_engine (s : State) (r : ItemRecord) (n : StationNo) :
    ((s.dropListed r).station n).engine = (s.station n).engine := by
  unfold State.dropListed
  split
  · rename_i v _ _
    by_cases e : n = v.station
    · subst e; simp
    · simp [State.dropOrder, e]
  · rfl

@[simp] theorem retire_engine (t : Byte) (c : OutcomeCode) (s : State) (n : StationNo) :
    ((retire t c s).station n).engine = (s.station n).engine := by
  unfold retire
  split
  · rfl
  · rename_i r _
    exact (congrArg (fun v => v[n.val].engine) (accept_stations _ r c)).trans (dropListed_engine (s.dropAnnounce t) r n)

@[simp] theorem retire_lane (t : Byte) (c : OutcomeCode) (s : State) (l : LaneNo) :
    (retire t c s).lane l = s.lane l := by simp [State.lane]

/-- The table and the backlog after a retirement: the slot free, or the record RETIRED and in the backlog (R69, R70). -/
theorem retire_table {t : Byte} {c : OutcomeCode} {r : ItemRecord} (h : s.liveRecord t = some r) :
    ((retire t c s).items = (s.freeSlot r.tag).items ∧ (retire t c s).backlog = s.backlog) ∨
      ((retire t c s).items = (s.modifyRecord r.tag (fun x => { x with state := .retired, outcome := some c })).items ∧
        (retire t c s).backlog = s.backlog ++ [r.tag]) := by
  rw [retire_live h]
  by_cases hq : ((s.dropAnnounce t).dropListed r).queueTakes = true
  · rw [accept_queued hq]
    exact .inl ⟨by simp [State.freeSlot], by simp⟩
  · rw [accept_backlogged (by simpa using hq)]
    exact .inr ⟨by simp [State.modifyRecord], by simp⟩

theorem State.Filed.oneRecord_retire (h : s.Filed P) {r : ItemRecord} (hr : r ∈ s.items) (hl : r.state ≠ .retired)
    (c : OutcomeCode) : OneRecord r.tag s.items s.backlog (retire r.tag c s).items (retire r.tag c s).backlog := by
  obtain ⟨hi, hb⟩ | ⟨hi, hb⟩ := retire_table (c := c) (h.table.liveRecord_eq hr (ItemRecord.isLive_iff.2 hl))
  · rw [hi, hb]; exact h.oneRecord_freeSlot hr hl
  · rw [hi, hb]; exact h.oneRecord_backlogged hr hl (fun _ => rfl) rfl

/-- A retired record that is still in its slot is RETIRED with its OUTCOME (R70). -/
theorem State.Filed.mem_retire_own (h : s.Filed P) {r : ItemRecord} (hr : r ∈ s.items) (hl : r.state ≠ .retired)
    {c : OutcomeCode} {x : ItemRecord} (hx : x ∈ (retire r.tag c s).items) (ht : x.tag = r.tag) :
    x.state = .retired ∧ x.outcome ≠ none := by
  obtain ⟨hi, -⟩ | ⟨hi, -⟩ := retire_table (c := c) (h.table.liveRecord_eq hr (ItemRecord.isLive_iff.2 hl)) <;> rw [hi] at hx
  · exact absurd ht (mem_freeSlot.1 hx).2
  · simp [h.mem_modifyRecord_own hr hx ht]

/-- What the records meet after the retirement of `r`: the others what they met, and `r` what a RETIRED record meets. -/
theorem State.Filed.records_retire (h : s.Filed P) {r : ItemRecord} (hr : r ∈ s.items) (hl : r.state ≠ .retired)
    {c : OutcomeCode} (hPQ : ∀ x ∈ s.items, x.tag ≠ r.tag → P x → Q x)
    (hret : ∀ x, x.tag = r.tag → x.state = .retired → x.outcome ≠ none → Q x) :
    ∀ x ∈ (retire r.tag c s).items, Q x := by
  intro x hx
  by_cases e : x.tag = r.tag
  · obtain ⟨hs, ho⟩ := h.mem_retire_own hr hl hx e
    exact hret x e hs ho
  · have hx' := ((h.oneRecord_retire hr hl c).others x e).1 hx
    exact hPQ x hx' e (h.records x hx')

/-- A live record that no lane measures and no engine is ON for retires. -/
theorem State.Coupled.retire_keeps (h : s.Coupled P) {r : ItemRecord} (hr : r ∈ s.items) (hl : r.state ≠ .retired)
    (hm : r.state ≠ .measuring) (he : ∀ n q, (s.station n).engine = .on q → q.tag ≠ r.tag) (c : OutcomeCode)
    (hPQ : ∀ x ∈ s.items, x.tag ≠ r.tag → P x → Q x)
    (hret : ∀ x, x.tag = r.tag → x.state = .retired → x.outcome ≠ none → Q x) : (retire r.tag c s).Coupled Q := by
  refine h.change hr hl (h.oneRecord_retire hr hl c) (by simp) (by simp) none (fun n q hq => ?_) (fun l m => ?_) (fun l => ?_)
    (fun x hx e => ?_) (h.records_retire hr hl hPQ hret)
  · rw [retire_engine] at hq
    exact .inl ⟨he n q hq, q, hq, rfl⟩
  · rw [retire_lane]
    exact ⟨fun hlm => ⟨hlm, h.measurement_ne hr hm hlm⟩, And.left⟩
  · rw [retire_lane]; exact h.measuring_iff l
  · simp [(h.mem_retire_own hr hl hx e).1]

/-- The drain completion check: in IDLE nothing is live (R16, R19). -/
theorem State.Coupled.drainCheck_keeps (h : s.Coupled P) : (drainCheck s).Coupled P := by
  unfold drainCheck
  split
  next hd =>
    have hlane : ∀ l, (drainComplete s).lane l = (s.lane l).toOff := lane_lanesOff s
    exact State.Filed.coupled_of_rest ⟨h.table, h.backlog, h.records⟩ hd.2 (fun n => h.engine_off hd.2 n)
      (fun l => by simp [hlane, Lane.toOff]) rfl
  next => exact h

theorem State.Coupled.retireAndCheck_keeps (h : s.Coupled P) {r : ItemRecord} (hr : r ∈ s.items) (hl : r.state ≠ .retired)
    (hm : r.state ≠ .measuring) (hf : r.state ≠ .firing) (c : OutcomeCode)
    (hPQ : ∀ x ∈ s.items, x.tag ≠ r.tag → P x → Q x)
    (hret : ∀ x, x.tag = r.tag → x.state = .retired → x.outcome ≠ none → Q x) : (retireAndCheck r.tag c s).Coupled Q :=
  (h.retire_keeps hr hl hm (fun _ _ => h.pulse_ne hr hf) c hPQ hret).drainCheck_keeps

end

end Sys2Proof.Machine
end

section
/-! Changes of one lane or one station, the engines, and the arrivals. -/

namespace Sys2Proof.Machine

section
variable {P Q : ItemRecord → Prop} {s s' : State}

/-! ### Changes of one lane, of one station, and of no part of the laws -/

/-- The laws read the items, the backlog, P, the run state, the lanes, the stations and the waiting advance alone. -/
theorem State.Coupled.frame (h : s.Coupled P) (hi : s'.items = s.items) (hb : s'.backlog = s.backlog) (hp : s'.p = s.p)
    (hrun : s'.run = s.run) (hl : s'.lanes = s.lanes) (hst : s'.stations = s.stations)
    (ha : s.running = false → s'.advanceDue = true → s.advanceDue = true) : s'.Coupled P := by
  have hlane : ∀ l, s'.lane l = s.lane l := fun l => by simp [State.lane, hl]
  have hstation : ∀ n, s'.station n = s.station n := fun n => by simp [State.station, hst]
  refine h.congr hi hb hp (fun n q hq => ⟨q, by rwa [← hstation], rfl⟩) (fun l => by rw [hlane]) (fun l => by rw [hlane])
    (h.rest.congr hrun hi (fun _ n => ?_) (fun _ l => ?_) ha)
  · rw [hstation]; exact id
  · rw [hlane]; exact id

/-- A change of one station that does not turn its engine ON. -/
theorem State.Coupled.setStation_keeps (h : s.Coupled P) (n : StationNo) (x : Station)
    (he : ∀ q, x.engine = .on q → ∃ q', (s.station n).engine = .on q' ∧ q'.tag = q.tag) : (s.setStation n x).Coupled P := by
  have he' : ∀ m q, ((s.setStation n x).station m).engine = .on q → ∃ q', (s.station m).engine = .on q' ∧ q'.tag = q.tag := by
    intro m q hq
    by_cases e : m = n
    · subst e; exact he q (by simpa using hq)
    · exact ⟨q, by simpa [e] using hq, rfl⟩
  refine h.congr rfl rfl rfl he' (fun _ => rfl) (fun _ => .rfl) (h.rest.congr rfl rfl (fun _ m hm => ?_) (fun _ _ => id) (fun _ => id))
  obtain ⟨q, hq⟩ := Engine.isOn_iff.1 hm
  obtain ⟨q', hq', -⟩ := he' m q hq
  exact Engine.isOn_iff.2 ⟨q', hq'⟩

/-- A change of one lane that keeps its measurement, and that leaves an OFF lane OFF while the line rests. -/
theorem State.Coupled.setLane_keeps (h : s.Coupled P) (l : LaneNo) (x : Lane) (hm : x.measurement = (s.lane l).measurement)
    (hs : x.state = .measuring ↔ (s.lane l).state = .measuring)
    (ho : s.running = false → (s.lane l).state = .off → x.state = .off) : (s.setLane l x).Coupled P := by
  refine h.congr rfl rfl rfl (fun n q hq => ⟨q, hq, rfl⟩) (fun k => ?_) (fun k => ?_)
    (h.rest.congr rfl rfl (fun _ _ => id) (fun hr k => ?_) (fun _ => id)) <;> rw [lane_setLane] <;> split
  · next e => rw [e, hm]
  · rfl
  · next e => rw [e, hs]
  · rfl
  · next e => rw [e]; exact ho hr
  · exact id

/-- One record has one measuring lane. -/
theorem State.Coupled.measurement_lane (h : s.Coupled P) {l k : LaneNo} {m m' : Measurement}
    (hm : (s.lane l).measurement = some m) (hm' : (s.lane k).measurement = some m') (ht : m'.tag = m.tag) : k = l := by
  obtain ⟨r, hr, hrt, -, hrl, -⟩ := h.measured hm
  obtain ⟨x, hx, hxt, -, hxl, -⟩ := h.measured hm'
  rw [← hrl, ← hxl, h.table.tag_inj hr hx (by rw [hxt, ht, hrt])]

/-- The measurement of lane `l` ends: its record is MEASURING no more, and the lane holds no measurement. -/
theorem State.Coupled.measurement_ends (h : s.Coupled P) {l : LaneNo} {m : Measurement} {r : ItemRecord} {y : Lane}
    (hm : (s.lane l).measurement = some m) (hr : r ∈ s.items) (ht : r.tag = m.tag) (hs : r.state = .measuring)
    (hone : OneRecord r.tag s.items s.backlog s'.items s'.backlog) (hp : s'.p = s.p) (hrun : s'.run = s.run)
    (he : ∀ n, (s'.station n).engine = (s.station n).engine) (hlane : ∀ k, s'.lane k = if k = l then y else s.lane k)
    (hy : y.measurement = none) (hys : y.state ≠ .measuring) (hown : ∀ x ∈ s'.items, x.tag = r.tag → x.state ≠ .measuring)
    (hQ : ∀ x ∈ s'.items, Q x) : s'.Coupled Q := by
  refine h.change hr (by simp [hs]) hone hp hrun none (fun n q hq => ?_) (fun k m' => ?_) (fun k => ?_) hown hQ
  · rw [he] at hq
    exact .inl ⟨h.pulse_ne hr (by simp [hs]) hq, q, hq, rfl⟩
  · rw [hlane]
    by_cases e : k = l
    · subst e
      simp only [if_true, hy, hm, Option.some.injEq, reduceCtorEq, false_iff]
      rintro ⟨rfl, hne⟩
      exact hne ht.symm
    · simp only [e, if_false]
      exact ⟨fun hm' => ⟨hm', fun e' => e (h.measurement_lane hm hm' (e'.trans ht))⟩, And.left⟩
  · rw [hlane]
    by_cases e : k = l
    · simp [e, hy, hys]
    · simpa [e] using h.measuring_iff k

/-! ### What a retired record meets -/

theorem ItemRecord.presence_retired {r : ItemRecord} (hs : r.state = .retired) (ho : r.outcome ≠ none) : r.presence := by
  simp [ItemRecord.presence, hs, ho]

/-! ### Guard marks and engines -/

theorem State.Coupled.takeGuardMark_keeps (h : s.Coupled P) (n : StationNo) : (takeGuardMark n s).Coupled P := by
  unfold takeGuardMark
  split
  · exact h.setStation_keeps n _ fun q hq => ⟨q, hq, rfl⟩
  · exact h

theorem State.Coupled.takeRecoveryEnd_keeps (h : s.Coupled P) (n : StationNo) : (takeRecoveryEnd n s).Coupled P := by
  unfold takeRecoveryEnd
  split
  · split
    · exact h.setStation_keeps n _ fun q hq => by simp at hq
    · exact h
  · exact h

theorem Station.afterPulse_ne_on (x : Station) (q : Pulse) : x.afterPulse ≠ .on q := by
  unfold Station.afterPulse
  split <;> simp

/-- The pulse of an engine that is ON ends, and its FIRING record retires (R126). -/
theorem State.Coupled.pulseEnd_keeps (h : s.Coupled ItemRecord.presence) {n : StationNo} {q : Pulse}
    (hq : (s.station n).engine = .on q) (c : OutcomeCode) : (pulseEnd n q.tag c s).Coupled ItemRecord.presence := by
  obtain ⟨r, hr, hrt, hrs⟩ := h.pulses.1 n q hq
  have h' : (s.setStation n { s.station n with engine := (s.station n).afterPulse, tickLate := false }).Coupled
      ItemRecord.presence :=
    h.setStation_keeps n _ fun q' hq' => absurd hq' (Station.afterPulse_ne_on _ q')
  rw [pulseEnd_eq, retireAndCheck, ← hrt]
  refine (h'.retire_keeps hr (by simp [hrs]) (by simp [hrs]) (fun m q' hq' ht => ?_) c (fun _ _ _ => id)
    fun _ _ => ItemRecord.presence_retired).drainCheck_keeps
  by_cases e : m = n
  · subst e
    exact Station.afterPulse_ne_on _ q' (by simpa using hq')
  · exact e (h.pulses.2 n m q q' hq (by simpa [e] using hq') (ht.trans hrt))

theorem State.Coupled.takeTimePulseEnd_keeps (h : s.Coupled ItemRecord.presence) (n : StationNo) :
    (takeTimePulseEnd n s).Coupled ItemRecord.presence := by
  obtain he | ⟨q, c, hq, he⟩ := takeTimePulseEnd_cases n s <;> rw [he]
  · exact h
  · exact h.pulseEnd_keeps hq c

theorem State.Coupled.takeMaxOnCut_keeps (h : s.Coupled ItemRecord.presence) (n : StationNo) :
    (takeMaxOnCut n s).Coupled ItemRecord.presence := by
  obtain he | ⟨q, hq, he⟩ := takeMaxOnCut_cases n s <;> rw [he]
  · exact h
  · exact h.pulseEnd_keeps hq .firedCut

theorem State.Coupled.takeOffPosition_keeps (h : s.Coupled ItemRecord.presence) (n : StationNo) :
    (takeOffPosition n s).Coupled ItemRecord.presence := by
  obtain he | ⟨q, c, hq, he⟩ := takeOffPosition_cases n s <;> rw [he]
  · exact h
  · exact h.pulseEnd_keeps hq c

/-- A change of one live record that is not MEASURING, before or after it, beside a change of one station: every lane stays,
and the station's engine is ON after it only for that record, FIRING, or as it was. -/
theorem State.Coupled.modify_keeps (h : s.Coupled P) {r : ItemRecord} (hr : r ∈ s.items) (hl : r.state ≠ .retired)
    (hm : r.state ≠ .measuring) {f : ItemRecord → ItemRecord} (hf : ∀ x, (f x).tag = x.tag) (hfl : (f r).state ≠ .retired)
    (hfm : (f r).state ≠ .measuring) (n : StationNo) (x : Station)
    (he : ∀ q, x.engine = .on q →
      (q.tag ≠ r.tag ∧ ∃ q', (s.station n).engine = .on q' ∧ q'.tag = q.tag) ∨ (q.tag = r.tag ∧ (f r).state = .firing))
    (ho : ∀ m q, m ≠ n → (s.station m).engine = .on q → q.tag ≠ r.tag)
    (hPQ : ∀ x ∈ s.items, x.tag ≠ r.tag → P x → Q x) (hown : Q (f r)) :
    ((s.setStation n x).modifyRecord r.tag f).Coupled Q := by
  refine h.change hr hl (h.oneRecord_modifyRecord hr hl hf hfl) rfl rfl (some n) (fun m q hq => ?_) (fun l m => ?_)
    h.measuring_iff (fun y hy ht => ?_) (fun y hy => ?_)
  · by_cases e : m = n
    · subst e
      obtain hq' | ⟨ht, hs⟩ := he q (by simpa using hq)
      · exact .inl hq'
      · exact .inr ⟨ht, rfl, f r, mem_modifyRecord.2 (.inr ⟨r, hr, rfl, rfl⟩), hf r, hs⟩
    · have hq' : (s.station m).engine = .on q := by simpa [e] using hq
      exact .inl ⟨ho m q e hq', q, hq', rfl⟩
  · exact ⟨fun hlm => ⟨hlm, h.measurement_ne hr hm hlm⟩, And.left⟩
  · rw [h.mem_modifyRecord_own hr hy ht]; exact hfm
  · obtain ⟨hy', hne⟩ | ⟨r', hr', ht, rfl⟩ := mem_modifyRecord.1 hy
    · exact hPQ y hy' hne (h.records y hy')
    · rw [h.table.tag_inj hr hr' ht]; exact hown

/-- An engine takes a tick (R123, R127). -/
theorem State.Coupled.engineTick_keeps (h : s.Coupled ItemRecord.presence) (n : StationNo) :
    (engineTick n s).Coupled ItemRecord.presence := by
  unfold engineTick
  simp only
  split
  next q hq =>
    obtain ⟨r, hr, hrt, hrs⟩ := h.pulses.1 n q hq
    rw [← hrt]
    refine State.Coupled.modify_keeps (P := ItemRecord.presence) h hr (by simp [hrs]) (by simp [hrs]) (by exact fun _ => rfl)
      (by simp [hrs]) (by simp [hrs]) n _ (fun q' hq' => .inr ⟨?_, ?_⟩) (fun m q' hm hq' ht => hm (h.pulses.2 n m q q' hq hq' (ht.trans hrt)))
      (fun _ _ _ => id) ?_
    · rw [← Engine.on.inj hq']
    · exact hrs
    · have hp := h.records r hr
      simp only [ItemRecord.presence, hrs] at hp ⊢
      simpa using hp
  next => exact h.setStation_keeps n _ fun q hq => by simp at hq
  next => exact h
  next => exact h

theorem State.Coupled.takeLateTick_keeps (h : s.Coupled ItemRecord.presence) (n : StationNo) :
    (takeLateTick n s).Coupled ItemRecord.presence := by
  unfold takeLateTick
  split
  · refine State.Coupled.engineTick_keeps ?_ n
    exact h.setStation_keeps n _ fun q hq => ⟨q, hq, rfl⟩
  · exact h

/-! ### Arrivals -/

/-- The head that arrives is COMMITTED (R108, R121). -/
theorem arriving_spec {n : StationNo} {t : Byte} {o : Order} (ha : s.arriving n = some (t, o)) :
    ∃ r ∈ s.items, r.tag = t ∧ r.state = .committed := by
  unfold State.arriving at ha
  split at ha
  · simp at ha
  · split at ha
    · simp at ha
    · next t' _ r hr =>
      obtain ⟨hri, hrt, -⟩ := liveRecord_spec hr
      split at ha
      · next hs _ =>
        split at ha
        · simp only [Option.some.injEq, Prod.mk.injEq] at ha
          exact ⟨r, hri, hrt.trans ha.1, hs⟩
        · simp at ha
      · simp at ha

theorem State.Coupled.takeArrival_keeps (h : s.Coupled ItemRecord.presence) (n : StationNo) :
    (takeArrival n s).Coupled ItemRecord.presence := by
  obtain he | ⟨t, o, ha, hoff, he⟩ | ⟨t, o, ha, he⟩ := takeArrival_cases n s <;> rw [he]
  · exact h
  · obtain ⟨r, hr, rfl, hrs⟩ := arriving_spec ha
    refine State.Coupled.modify_keeps (P := ItemRecord.presence) h hr (by simp [hrs]) (by simp [hrs]) (by exact fun _ => rfl)
      (by simp) (by simp) n _ (fun q hq => .inr ⟨?_, ?_⟩) (fun m q _ => h.pulse_ne hr (by simp [hrs])) (fun _ _ _ => id) ?_
    · rw [← Engine.on.inj hq]
    · rfl
    · have hp := h.records r hr
      simp only [ItemRecord.presence, hrs] at hp ⊢
      obtain ⟨hlen, hver, hord, -, hout⟩ := hp
      exact ⟨hlen, hver, hord, by simp, hout⟩
  · obtain ⟨r, hr, rfl, hrs⟩ := arriving_spec ha
    have h' : (s.setStation n { s.station n with list := (s.station n).list.tail }).Coupled ItemRecord.presence :=
      h.setStation_keeps n _ fun q hq => ⟨q, hq, rfl⟩
    exact h'.retireAndCheck_keeps hr (by simp [hrs]) (by simp [hrs]) (by simp [hrs]) .collided (fun _ _ _ => id)
      fun _ _ => ItemRecord.presence_retired

end

end Sys2Proof.Machine
end

section
/-! The commit, the deadline, and what ends a measurement. -/

namespace Sys2Proof.Machine

section
variable {P Q : ItemRecord → Prop} {s s' : State}

/-! ### Bumps and the commit (R114) -/

/-- The records of `tags` are COMMITTED or have already retired. -/
def State.Bumpable (s : State) (tags : List Byte) : Prop :=
  ∀ x ∈ s.items, x.tag ∈ tags → x.state = .committed ∨ x.state = .retired

theorem State.Coupled.retireAndCheck_bumpable (h : s.Coupled P) {t : Byte} (hb : s.Bumpable [t])
    (hret : ∀ x : ItemRecord, x.tag = t → x.state = .retired → x.outcome ≠ none → P x) (c : OutcomeCode) :
    (retireAndCheck t c s).Coupled P := by
  cases hf : s.liveRecord t with
  | none => rw [retireAndCheck, retire_absent hf]; exact h.drainCheck_keeps
  | some r =>
    obtain ⟨hr, rfl, hl⟩ := liveRecord_spec hf
    have hl' := ItemRecord.isLive_iff.1 hl
    have hs : r.state = .committed := (hb r hr (by simp)).resolve_right hl'
    exact h.retireAndCheck_keeps hr hl' (by simp [hs]) (by simp [hs]) c (fun _ _ _ => id) hret

/-- A record of another tag is in the table after a retirement exactly when it was before. -/
theorem State.Filed.mem_retireAndCheck (h : s.Filed P) {t : Byte} {c : OutcomeCode} {x : ItemRecord} (hx : x.tag ≠ t) :
    x ∈ (retireAndCheck t c s).items ↔ x ∈ s.items := by
  rw [retireAndCheck, drainCheck_items]
  cases hf : s.liveRecord t with
  | none => rw [retire_absent hf]
  | some r =>
    obtain ⟨hr, rfl, hl⟩ := liveRecord_spec hf
    exact (h.oneRecord_retire hr (ItemRecord.isLive_iff.1 hl) c).others x hx

/-- After a retirement a record of its tag is RETIRED. -/
theorem State.Filed.retired_of_retireAndCheck (h : s.Filed P) {t : Byte} {c : OutcomeCode} {x : ItemRecord}
    (hx : x ∈ (retireAndCheck t c s).items) (ht : x.tag = t) : x.state = .retired := by
  rw [retireAndCheck, drainCheck_items] at hx
  cases hf : s.liveRecord t with
  | none =>
    rw [retire_absent hf] at hx
    by_contra hs
    have := h.table.liveRecord_eq hx (ItemRecord.isLive_iff.2 hs)
    rw [ht, hf] at this
    cases this
  | some r =>
    obtain ⟨hr, rfl, hl⟩ := liveRecord_spec hf
    exact (h.mem_retire_own hr (ItemRecord.isLive_iff.1 hl) hx ht).1

/-- The bumps keep the laws and every record that is not bumped (R114 step 1). -/
theorem State.Coupled.bumpAll_keeps {tags : List Byte} (h : s.Coupled P) (hb : s.Bumpable tags)
    (hret : ∀ x : ItemRecord, x.tag ∈ tags → x.state = .retired → x.outcome ≠ none → P x) :
    (bumpAll tags s).Coupled P ∧ ∀ x, x.tag ∉ tags → (x ∈ (bumpAll tags s).items ↔ x ∈ s.items) := by
  induction tags generalizing s with
  | nil => exact ⟨h, fun _ _ => .rfl⟩
  | cons t ts ih =>
    have h' : (retireAndCheck t .bumped s).Coupled P :=
      h.retireAndCheck_bumpable (fun x hx ht => hb x hx (by simp_all)) (fun x ht => hret x (by simp [ht])) .bumped
    have hb' : (retireAndCheck t .bumped s).Bumpable ts := by
      intro x hx hm
      by_cases ht : x.tag = t
      · exact .inr (h.retired_of_retireAndCheck hx ht)
      · exact hb x ((h.mem_retireAndCheck ht).1 hx) (by simp [hm])
    obtain ⟨hc, hi⟩ := ih h' hb' fun x hm => hret x (by simp [hm])
    refine ⟨hc, fun x hx => ?_⟩
    obtain ⟨ht, hts⟩ : x.tag ≠ t ∧ x.tag ∉ ts := by simpa using hx
    exact (hi x hts).trans (h.mem_retireAndCheck ht)

/-- Table 4.1 for every record but the one of `t`, which is PENDING with its LENGTH and gets its VERDICT within the event. -/
def ItemRecord.presenceBut (t : Byte) (r : ItemRecord) : Prop :=
  if r.tag = t then r.state = .pending ∧ r.length ≠ none ∧ r.firing = none ∧ r.outcome = none else r.presence

theorem ItemRecord.presenceBut_other {t : Byte} {r : ItemRecord} (h : r.tag ≠ t) : r.presenceBut t ↔ r.presence := by
  simp [ItemRecord.presenceBut, h]

theorem ItemRecord.presenceBut_own {r : ItemRecord} :
    r.presenceBut r.tag ↔ r.state = .pending ∧ r.length ≠ none ∧ r.firing = none ∧ r.outcome = none := by
  simp [ItemRecord.presenceBut]

theorem ItemRecord.presenceBut_of_presence {r x : ItemRecord} (hs : r.state = .pending) (h : r.presence)
    (e : x.tag = r.tag → x = r) (hx : x.presence) : x.presenceBut r.tag := by
  by_cases ht : x.tag = r.tag
  · rw [e ht, ItemRecord.presenceBut_own]
    simp only [ItemRecord.presence, hs] at h
    obtain ⟨hlen, -, -, hfir, hout⟩ := h
    exact ⟨hs, hlen, hfir, hout⟩
  · exact (ItemRecord.presenceBut_other ht).2 hx

/-- A PENDING record takes its VERDICT and its ORDER and is COMMITTED (R81, R60). -/
theorem State.Coupled.commit_keeps {r : ItemRecord} (h : s.Coupled (ItemRecord.presenceBut r.tag)) (hr : r ∈ s.items)
    (v : Verdict) (o : Order) : (commit r.tag v o s).Coupled ItemRecord.presence := by
  obtain ⟨hs, hlen, hfir, hout⟩ := ItemRecord.presenceBut_own.1 (h.records r hr)
  refine State.Coupled.modify_keeps (P := ItemRecord.presenceBut r.tag) (s := s.dropAnnounce r.tag) ?_ hr (by simp [hs])
    (by simp [hs]) (by exact fun _ => rfl) (by simp) (by simp) v.station _ (fun q hq => .inl ?_)
    (fun m q _ hq => h.pulse_ne hr (by simp [hs]) hq) (fun x _ e => (ItemRecord.presenceBut_other e).1) ?_
  · exact h.frame rfl rfl rfl rfl rfl rfl fun _ => id
  · exact ⟨h.pulse_ne hr (by simp [hs]) hq, q, hq, rfl⟩
  · simp [ItemRecord.presence, hlen, hfir, hout]

/-- The orders that a placement bumps are those of COMMITTED records (R112). -/
theorem arbitrate_bumpable (ht : s.tableLaw) {t : Byte} {v : Verdict} {on : Pos} {tags : List Byte}
    (ha : s.arbitrate t v on = some tags) {x : ItemRecord} (hx : x ∈ s.items) (hm : x.tag ∈ tags) : x.state = .committed := by
  obtain ⟨-, -, rfl⟩ := arbitrate_won.1 ha
  obtain ⟨y, hy, hyt⟩ := List.mem_map.1 hm
  obtain ⟨hyi, hc⟩ := List.mem_filter.1 hy
  rw [ht.tag_inj hyi hx hyt.symm]
  simp only [State.conflictsAt, Bool.and_eq_true, beq_iff_eq] at hc
  exact hc.1.1

/-- A placement that won: the bumps, then the commit (R114). -/
theorem State.Coupled.place_keeps {t : Byte} (h : s.Coupled (ItemRecord.presenceBut t)) (ht : ∃ r ∈ s.items, r.tag = t)
    {v : Verdict} {o : Order} {on : Pos} {tags : List Byte} (ha : s.arbitrate t v on = some tags) :
    (place t v o tags s).Coupled ItemRecord.presence := by
  obtain ⟨r, hr, rfl⟩ := ht
  have hs : r.state = .pending := (ItemRecord.presenceBut_own.1 (h.records r hr)).1
  have hrn : r.tag ∉ tags := fun hm => by simp [arbitrate_bumpable h.table ha hr hm] at hs
  obtain ⟨hc, hi⟩ := h.bumpAll_keeps (tags := tags) (fun x hx hm => .inl (arbitrate_bumpable h.table ha hx hm))
    fun x hm hx ho => (ItemRecord.presenceBut_other fun e : x.tag = r.tag => hrn (e ▸ hm)).2 (ItemRecord.presence_retired hx ho)
  exact hc.commit_keeps ((hi r hrn).2 hr) v o

/-! ### The deadline (R58 to R60) -/

/-- The record retires before it has got an order. -/
theorem State.Coupled.retire_undecided {t : Byte} (h : s.Coupled (ItemRecord.presenceBut t)) (ht : ∃ r ∈ s.items, r.tag = t)
    (c : OutcomeCode) : (retireAndCheck t c s).Coupled ItemRecord.presence := by
  obtain ⟨r, hr, rfl⟩ := ht
  have hs : r.state = .pending := (ItemRecord.presenceBut_own.1 (h.records r hr)).1
  exact h.retireAndCheck_keeps hr (by simp [hs]) (by simp [hs]) (by simp [hs]) c
    (fun x _ e => (ItemRecord.presenceBut_other e).1) fun _ _ => ItemRecord.presence_retired

/-- The default EJECT of a PENDING record (R60). -/
theorem State.Coupled.defaultEject_keeps (h : s.Coupled ItemRecord.presence) {r : ItemRecord} (hr : r ∈ s.items)
    (hs : r.state = .pending) : (defaultEject r s).Coupled ItemRecord.presence := by
  have h₁ : (s.modifyRecord r.tag fun x => { x with verdict := some (defaultVerdict r.snapshot) }).Coupled
      (ItemRecord.presenceBut r.tag) := by
    have hp := h.records r hr
    simp only [ItemRecord.presence, hs] at hp
    obtain ⟨hlen, -, -, hfir, hout⟩ := hp
    refine h.change hr (by simp [hs]) (h.oneRecord_modifyRecord hr (by simp [hs]) (fun _ => rfl) (by simp [hs])) rfl rfl none
      (fun n q hq => .inl ⟨h.pulse_ne hr (by simp [hs]) hq, q, hq, rfl⟩)
      (fun l m => ⟨fun hm => ⟨hm, h.measurement_ne hr (by simp [hs]) hm⟩, And.left⟩) h.measuring_iff (fun x hx e => ?_)
      (fun x hx => ?_)
    · simp [h.mem_modifyRecord_own hr hx e, hs]
    · by_cases e : x.tag = r.tag
      · rw [h.mem_modifyRecord_own hr hx e]
        exact ItemRecord.presenceBut_own.2 ⟨hs, hlen, hfir, hout⟩
      · exact (ItemRecord.presenceBut_other e).2 (h.records x ((mem_modifyRecord_other (by exact fun _ => rfl) e).1 hx))
  have hr₁ : ∃ x ∈ (s.modifyRecord r.tag fun x => { x with verdict := some (defaultVerdict r.snapshot) }).items,
      x.tag = r.tag := ⟨_, mem_modifyRecord.2 (.inr ⟨r, hr, rfl, rfl⟩), rfl⟩
  unfold defaultEject
  simp only
  split
  · exact h₁.retire_undecided hr₁ _
  · split
    · exact h₁.retire_undecided hr₁ _
    · split
      · exact h₁.retire_undecided hr₁ _
      · next ha => exact h₁.place_keeps hr₁ ha

theorem State.Coupled.retirePending_keeps (h : s.Coupled ItemRecord.presence) {r : ItemRecord} (hr : r ∈ s.items)
    (hs : r.state = .pending ∨ r.state = .committed) (c : OutcomeCode) :
    (retireAndCheck r.tag c s).Coupled ItemRecord.presence := by
  refine h.retireAndCheck_keeps hr ?_ ?_ ?_ c (fun _ _ _ => id) fun _ _ => ItemRecord.presence_retired <;>
  · obtain hs | hs := hs <;> simp [hs]

theorem State.Coupled.takeDeadline_keeps (h : s.Coupled ItemRecord.presence) (t : Byte) :
    (takeDeadline t s).Coupled ItemRecord.presence := by
  unfold takeDeadline
  split
  · exact h
  · next r hf =>
    obtain ⟨hr, rfl, -⟩ := liveRecord_spec hf
    split
    · next hs =>
      split
      · exact h.retirePending_keeps hr (.inl hs.1) _
      · exact h.defaultEject_keeps hr hs.1
    · exact h

/-! ### Lanes: jams, the ends of measurements, and lead edges -/

theorem jamDue_some {l : LaneNo} {t : Byte} (h : s.jamDue l = some t) :
    ∃ m, (s.lane l).measurement = some m ∧ m.jam = s.p ∧ m.tag = t := by
  unfold State.jamDue at h
  split at h
  · next m _ hm =>
    split at h
    · next hj => exact ⟨m, hm, hj, Option.some.inj h⟩
    · simp at h
  · simp at h

/-- The jam of a lane: its record retires OVERLENGTH (R42). -/
theorem State.Coupled.takeJam_keeps (h : s.Coupled ItemRecord.presence) (l : LaneNo) :
    (takeJam l s).Coupled ItemRecord.presence := by
  unfold takeJam
  split
  · exact h
  · next t hj =>
    obtain ⟨m, hm, -, rfl⟩ := jamDue_some hj
    obtain ⟨r, hr, hrt, hrs, -⟩ := h.measured hm
    rw [← hrt]
    refine State.Coupled.drainCheck_keeps (h.measurement_ends (y := { s.lane l with state := .jammed, measurement := none })
      hm hr hrt hrs (h.oneRecord_retire hr (by simp [hrs]) .overlength) (by simp) (by simp) (fun n => ?_) (fun k => ?_) rfl
      (by simp) (fun x hx e => ?_) (h.records_retire hr (by simp [hrs]) (fun _ _ _ => id)
        fun _ _ => ItemRecord.presence_retired))
    · exact retire_engine r.tag .overlength s n
    · rw [← retire_lane r.tag .overlength s k, ← retire_lane r.tag .overlength s l]
      exact lane_setLane _ l k _
    · simp [(h.mem_retire_own hr (by simp [hrs]) hx e).1]

theorem Lane.settleOrClear_state_ne (x : Lane) : x.settleOrClear.state ≠ .measuring := by
  unfold Lane.settleOrClear
  cases x.active <;> simp

/-- A lane that returns holds no measurement and is not MEASURING (R28, R33). -/
theorem Lane.return_spec (x : Lane) : x.return.measurement = none ∧ x.return.state ≠ .measuring := by
  unfold Lane.return
  simp only
  split
  · simp
  · split
    · exact ⟨rfl, Lane.settleOrClear_state_ne _⟩
    · simp

/-- The end of the measurement of lane `l`, short or not (R40, R41). -/
theorem State.Coupled.endMeasurement_keeps (h : s.Coupled ItemRecord.presence) {l : LaneNo} {m : Measurement}
    (hm : (s.lane l).measurement = some m) : (endMeasurement l m.tag s).Coupled ItemRecord.presence := by
  obtain ⟨r, hr, hrt, hrs, -⟩ := h.measured hm
  obtain ⟨hy, hys⟩ := (s.lane l).return_spec
  have hl : r.state ≠ .retired := by simp [hrs]
  unfold endMeasurement
  simp only
  rw [← hrt, h.table.liveRecord_eq hr (ItemRecord.isLive_iff.2 hl)]
  simp only [hrs, ne_eq, not_true_eq_false, if_false]
  split
  · refine State.Coupled.drainCheck_keeps (h.measurement_ends hm hr hrt hrs (h.oneRecord_freeSlot hr hl) rfl rfl (fun _ => rfl)
      (fun k => lane_setLane _ l k _) hy hys (fun x hx e => ?_) (fun x hx => ?_))
    · exact absurd e (mem_freeSlot.1 hx).2
    · exact h.records x (mem_freeSlot.1 hx).1
  · have hp := h.records r hr
    simp only [ItemRecord.presence, hrs] at hp
    refine h.measurement_ends hm hr hrt hrs (h.oneRecord_modifyRecord hr hl (by exact fun _ => rfl) (by simp)) rfl rfl (fun _ => rfl)
      (fun k => lane_setLane _ l k _) hy hys (fun x hx e => ?_) (fun x hx => ?_)
    · rw [h.mem_modifyRecord_own hr hx e]; simp
    · by_cases e : x.tag = r.tag
      · rw [h.mem_modifyRecord_own hr hx e]
        simpa [ItemRecord.presence] using hp.2
      · exact h.records x ((mem_modifyRecord_other (by exact fun _ => rfl) e).1 hx)

theorem State.Coupled.takeTrailingNow_keeps (h : s.Coupled ItemRecord.presence) (l : LaneNo) :
    (takeTrailingNow l s).Coupled ItemRecord.presence := by
  obtain ⟨hy, hys⟩ := (s.lane l).return_spec
  have hnone : (s.lane l).state ≠ .measuring → (s.lane l).measurement = none := fun hs => by
    by_contra hm; exact hs ((h.measuring_iff l).2 hm)
  unfold takeTrailingNow
  simp only
  split
  next => exact h
  next => exact h
  next hs => exact h.setLane_keeps l _ rfl (by simp [hs]) fun _ ho => by simp [hs] at ho
  next hs => exact h.setLane_keeps l _ (hy.trans (hnone (by simp [hs])).symm) (by simp [hs, hys]) fun _ ho => by simp [hs] at ho
  next hs => exact h.setLane_keeps l _ (hy.trans (hnone (by simp [hs])).symm) (by simp [hs, hys]) fun _ ho => by simp [hs] at ho
  next hs =>
    split
    next m hm => exact h.endMeasurement_keeps hm
    next hm => exact absurd hm ((h.measuring_iff l).1 hs)

theorem State.Coupled.takeTrailing_keeps (h : s.Coupled ItemRecord.presence) (l : LaneNo) :
    (takeTrailing l s).Coupled ItemRecord.presence := (h.takeJam_keeps l).takeTrailingNow_keeps l

end

end Sys2Proof.Machine
end

section
/-! New records: allocation, promotion, and the halt entry. -/

namespace Sys2Proof.Machine

section
variable {P Q : ItemRecord → Prop} {s s' : State}

/-! ### Allocation (R53, R55) -/

/-- If the search gives a tag that is held, it has met held tags all along. -/
theorem findTag_held {items : List ItemRecord} {tc : Byte} {fuel : Nat}
    (h : findTag items tc fuel ∈ items.map ItemRecord.tag) {k : Nat} (hk : k < fuel) :
    tc + BitVec.ofNat 8 k ∈ items.map ItemRecord.tag := by
  induction fuel generalizing tc k with
  | zero => exact absurd hk (Nat.not_lt_zero k)
  | succ fuel ih =>
    unfold findTag at h
    split at h
    next hany =>
      cases k with
      | zero => simpa using hany
      | succ k =>
        have := ih h (Nat.lt_of_succ_lt_succ hk)
        rwa [BitVec.ofNat_add, BitVec.add_comm (BitVec.ofNat 8 k), ← BitVec.add_assoc]
    next hany =>
      refine absurd h ?_
      simpa using hany

/-- The next tag is held by no record, since fewer than 256 are (R55). -/
theorem nextTag_fresh (h : s.items.length < 256) : ∀ r ∈ s.items, r.tag ≠ s.nextTag := by
  intro r hr e
  have hheld : s.nextTag ∈ s.items.map ItemRecord.tag := List.mem_map.2 ⟨r, hr, e⟩
  have hsub : (List.range 256).map (fun k => s.tc + BitVec.ofNat 8 k) ⊆ s.items.map ItemRecord.tag := by
    intro t ht
    obtain ⟨k, hk, rfl⟩ := List.mem_map.1 ht
    exact findTag_held hheld (List.mem_range.1 hk)
  have hnodup : ((List.range 256).map (fun k => s.tc + BitVec.ofNat 8 k)).Nodup := by
    refine List.Nodup.map_on (fun a ha b hb hab => ?_) List.nodup_range
    have := List.mem_range.1 ha
    have := List.mem_range.1 hb
    bv_omega
  have := (List.subperm_of_subset hnodup hsub).length_le
  simp at this
  omega

/-- The allocation of a lead edge with the lane that measures the new record (R36, R53). -/
theorem State.Coupled.allocate_keeps (h : s.Coupled ItemRecord.presence) {l : LaneNo} (hrun : s.run = .run)
    (hnone : (s.lane l).measurement = none) (hlen : s.items.length < 32) {y : Lane} (hy : y.state = .measuring)
    (hym : y.measurement = some { tag := s.nextTag, jam := jamPosition s.p (s.lane l).record.item.maxLength }) :
    ((allocate l s).setLane l y).Coupled ItemRecord.presence := by
  have hfresh := nextTag_fresh (s := s) (by omega)
  have hmem : ∀ x, x ∈ ((allocate l s).setLane l y).items ↔
      x ∈ s.items ∨ x = newRecord s.nextTag l s.p (s.lane l).record.item := fun x => by simp [allocate]
  have hlane : ∀ k, ((allocate l s).setLane l y).lane k = if k = l then y else s.lane k := fun k => lane_setLane _ l k y
  constructor
  case pulses =>
    refine ⟨fun n q hq => ?_, h.pulses.2⟩
    obtain ⟨r, hr, ht⟩ := h.pulses.1 n q hq
    exact ⟨r, (hmem r).2 (.inl hr), ht⟩
  case lanes =>
    refine ⟨fun k => ?_, fun k m hm => ?_, fun x hx hs => ?_⟩
    · rw [hlane]
      split
      · simp [hy, hym]
      · exact h.measuring_iff k
    · rw [hlane] at hm
      split at hm
      · next e =>
        obtain rfl := Option.some.inj (hym.symm.trans hm)
        exact ⟨_, (hmem _).2 (.inr rfl), rfl, rfl, e.symm, rfl⟩
      · obtain ⟨r, hr, hrm⟩ := h.measured hm
        exact ⟨r, (hmem r).2 (.inl hr), hrm⟩
    · obtain hx | rfl := (hmem x).1 hx
      · obtain ⟨hm, hle⟩ := h.measures hx hs
        have hne : x.lane ≠ l := fun e => by simp [e, hnone] at hm
        rw [hlane, if_neg hne]
        exact ⟨hm, hle⟩
      · rw [hlane, if_pos (by rfl), hym]
        exact ⟨rfl, by simp [newRecord, allocate]⟩
  case rest => exact fun hr => absurd hr (by simp [allocate, hrun])
  constructor
  case table =>
    refine ⟨by simpa [allocate] using hlen, ?_⟩
    have : (((allocate l s).setLane l y).items.map ItemRecord.tag) = s.items.map ItemRecord.tag ++ [s.nextTag] := by
      simp [allocate, newRecord]
    rw [this, List.nodup_append]
    refine ⟨h.table.2, by simp, ?_⟩
    simp only [List.mem_singleton, forall_eq, List.mem_map]
    rintro _ ⟨r, hr, rfl⟩
    exact hfresh r hr
  case backlog =>
    refine ⟨h.backlog.1, fun t => (h.backlog.2 t).trans (exists_congr fun x => ?_)⟩
    rw [hmem]
    constructor
    · rintro ⟨hx, ht⟩
      exact ⟨.inl hx, ht⟩
    · rintro ⟨hx | rfl, ht, hs⟩
      · exact ⟨hx, ht, hs⟩
      · simp [newRecord] at hs
  case records =>
    intro x hx
    obtain hx | rfl := (hmem x).1 hx
    · exact h.records x hx
    · simp [ItemRecord.presence, newRecord]

/-- A lead edge: a new MEASURING record and its lane, or a missed item, or nothing (R36, R39). -/
theorem State.Coupled.takeLead_keeps (h : s.Coupled ItemRecord.presence) (l : LaneNo) :
    (takeLead l s).Coupled ItemRecord.presence := by
  unfold takeLead
  simp only
  split
  next hc =>
    have hnone : (s.lane l).measurement = none := by
      by_contra hm; simp [(h.measuring_iff l).2 hm] at hc
    split
    next hfree =>
      have hlen : s.items.length < 32 := by simpa [State.freeCount, Config.tableSlots] using hfree
      exact h.allocate_keeps hc.2 hnone hlen rfl rfl
    next =>
      refine State.Coupled.frame (s := s.setLane l { s.lane l with state := .missing, missed := missedInc (s.lane l).missed }) ?_
        rfl rfl rfl rfl rfl rfl fun _ => id
      exact h.setLane_keeps l _ rfl (by simp [hc.1]) fun _ ho => by simp [hc.1] at ho
  next => exact h

theorem State.Coupled.takeSense_keeps (h : s.Coupled ItemRecord.presence) (l : LaneNo) (x : Sense) :
    (takeSense l x s).Coupled ItemRecord.presence := by
  cases x with
  | lead => exact h.takeLead_keeps l
  | trailing => exact h.takeTrailing_keeps l

theorem State.Coupled.flushLane_keeps (h : s.Coupled ItemRecord.presence) (l : LaneNo) :
    (flushLane l s).Coupled ItemRecord.presence := by
  unfold flushLane
  split
  · exact h
  · refine State.Coupled.takeSense_keeps ?_ l _
    exact h.setLane_keeps l _ rfl .rfl fun _ => id

/-! ### Promotion (R71, R142) -/

/-- The head of the backlog leaves the table: it is RETIRED, so that no lane and no engine names it. -/
theorem State.Coupled.promote_keeps (h : s.Coupled P) : (promote s).Coupled P := by
  unfold promote
  split
  · exact h
  · next t rest hb =>
    split
    · obtain ⟨r, hr, rfl, hrs⟩ := (h.backlog.2 t).1 (by simp [hb])
      have hnd := hb ▸ h.backlog.1
      obtain ⟨x, hf⟩ : ∃ x, s.heldRecord r.tag = some x := by
        cases hf : s.heldRecord r.tag with
        | none => exact absurd (List.find?_eq_none.1 hf r hr) (by simp)
        | some x => exact ⟨x, rfl⟩
      have hne : ∀ x ∈ s.items, x.state ≠ .retired → x.tag ≠ r.tag := fun x hx hs e => hs (h.table.tag_inj hr hx e ▸ hrs)
      rw [hf]
      constructor
      case pulses =>
        refine ⟨fun n q hq => ?_, h.pulses.2⟩
        obtain ⟨x, hx, ht, hs⟩ := h.pulses.1 n q hq
        exact ⟨x, mem_freeSlot.2 ⟨hx, hne x hx (by simp [hs])⟩, ht, hs⟩
      case lanes =>
        refine ⟨h.measuring_iff, fun l m hm => ?_, fun x hx hs => h.measures (mem_freeSlot.1 hx).1 hs⟩
        obtain ⟨x, hx, ht, hs, hl⟩ := h.measured hm
        exact ⟨x, mem_freeSlot.2 ⟨hx, hne x hx (by simp [hs])⟩, ht, hs, hl⟩
      case rest =>
        intro hr'
        obtain ⟨hlive, hrest⟩ := h.rest hr'
        refine ⟨State.hasLive_eq_false.2 fun x hx => ?_, hrest⟩
        exact State.hasLive_eq_false.1 hlive x (mem_freeSlot.1 hx).1
      refine ⟨⟨?_, h.table.2.sublist ((List.filter_sublist).map _)⟩, ⟨(List.nodup_cons.1 hnd).2, fun u => ?_⟩, fun x hx => h.records x (mem_freeSlot.1 hx).1⟩
      · exact (List.length_filter_le _ _).trans h.table.1
      · have hu := h.backlog.2 u
        rw [hb] at hu
        by_cases e : u = r.tag
        · subst e
          refine iff_of_false (List.nodup_cons.1 hnd).1 ?_
          rintro ⟨x, hx, ht, -⟩
          exact (mem_freeSlot.1 hx).2 ht
        · simp only [List.mem_cons, e, false_or] at hu
          refine hu.trans (exists_congr fun x => ?_)
          constructor
          · rintro ⟨hx, ht, hs⟩
            exact ⟨mem_freeSlot.2 ⟨hx, ht.trans_ne e⟩, ht, hs⟩
          · rintro ⟨hx, ht, hs⟩
            exact ⟨(mem_freeSlot.1 hx).1, ht, hs⟩
    · exact h

/-! ### Halt entry (R22) -/

theorem State.Filed.retire_keeps (h : s.Filed ItemRecord.presence) (t : Byte) (c : OutcomeCode) :
    (retire t c s).Filed ItemRecord.presence := by
  cases hf : s.liveRecord t with
  | none => rw [retire_absent hf]; exact h
  | some r =>
    obtain ⟨hr, rfl, hl⟩ := liveRecord_spec hf
    have hl' := ItemRecord.isLive_iff.1 hl
    exact h.change (h.oneRecord_retire hr hl' c)
      (h.records_retire hr hl' (fun _ _ _ => id) fun _ _ => ItemRecord.presence_retired)

/-- A record that is live after a retirement was live before it, and is another one. -/
theorem State.Filed.live_of_retire (h : s.Filed P) {t : Byte} {c : OutcomeCode} {x : ItemRecord}
    (hx : x ∈ (retire t c s).items) (hl : x.state ≠ .retired) : x ∈ s.items ∧ x.tag ≠ t := by
  cases hf : s.liveRecord t with
  | none =>
    rw [retire_absent hf] at hx
    refine ⟨hx, fun e => ?_⟩
    have := h.table.liveRecord_eq hx (ItemRecord.isLive_iff.2 hl)
    rw [e, hf] at this
    cases this
  | some r =>
    obtain ⟨hr, rfl, hrl⟩ := liveRecord_spec hf
    have hrl' := ItemRecord.isLive_iff.1 hrl
    have e : x.tag ≠ r.tag := fun e => hl (h.mem_retire_own hr hrl' hx e).1
    exact ⟨((h.oneRecord_retire hr hrl' c).others x e).1 hx, e⟩

/-- Retirements one after the other leave no live record of their tags. -/
theorem State.Filed.retireAll_keeps (h : s.Filed ItemRecord.presence) (ts : List Byte) (c : OutcomeCode) :
    (ts.foldl (fun a t => retire t c a) s).Filed ItemRecord.presence ∧
      ∀ x ∈ (ts.foldl (fun a t => retire t c a) s).items, x.state ≠ .retired → x ∈ s.items ∧ x.tag ∉ ts := by
  induction ts generalizing s with
  | nil => exact ⟨h, fun x hx _ => ⟨hx, by simp⟩⟩
  | cons t ts ih =>
    obtain ⟨hf, hlive⟩ := ih (h.retire_keeps t c)
    refine ⟨hf, fun x hx hl => ?_⟩
    obtain ⟨hx', hts⟩ := hlive x hx hl
    obtain ⟨hxs, ht⟩ := h.live_of_retire hx' hl
    exact ⟨hxs, by simp [ht, hts]⟩

theorem Engine.atHalt_isOn (e : Engine) : e.atHalt.isOn = false := by cases e <;> rfl

/-- A halt entry leaves nothing live, the engines at rest and the lanes OFF (R22). -/
theorem State.Filed.haltEntry_coupled (h : s.Filed ItemRecord.presence) (cause : HaltCause) :
    (haltEntry cause s).Coupled ItemRecord.presence := by
  have h₁ : ({ s with run := .halt, haltCause := cause } : State).Filed ItemRecord.presence :=
    ⟨h.table, h.backlog, h.records⟩
  obtain ⟨⟨htable, hbacklog, hrecords⟩, hlive⟩ :=
    h₁.retireAll_keeps ((s.items.filter ItemRecord.isLive).map ItemRecord.tag) .halted
  refine State.Filed.coupled_of_rest ⟨htable, hbacklog, hrecords⟩ (State.hasLive_eq_false.2 fun x hx => ?_) (fun n => ?_)
    (fun l => ?_) (haltEntry_advanceDue cause s)
  · by_contra hs
    obtain ⟨hx', ht⟩ := hlive x hx hs
    exact ht (List.mem_map.2 ⟨x, List.mem_filter.2 ⟨hx', ItemRecord.isLive_iff.2 hs⟩, rfl⟩)
  · simp [haltEntry, State.station, Station.atHalt, Engine.atHalt_isOn]
  · simp [State.lane, Lane.toOff]

end

end Sys2Proof.Machine
end

section
/-! Settling, the advance and the tick, up to each access. -/

namespace Sys2Proof.Machine

section
variable {P Q : ItemRecord → Prop} {s s' : State}

/-! ### What settling keeps: one walk for every relation -/

/-- A relation between the state after and the state before that the shared operations of settling keep: writes of stations
and records, retirements, the drain completion check, a lane that goes JAMMED. -/
structure Settling (R : State → State → Prop) : Prop where
  refl         : ∀ s, R s s
  trans        : ∀ {a b c}, R a b → R b c → R a c
  setStation   : ∀ (s : State) n x, R (s.setStation n x) s
  modifyRecord : ∀ (s : State) t f, R (s.modifyRecord t f) s
  dropAnnounce : ∀ (s : State) t, R (s.dropAnnounce t) s
  retire       : ∀ t c s, R (retire t c s) s
  drainCheck   : ∀ s, R (drainCheck s) s
  jammed       : ∀ (s : State) l,
    R { s.setLane l { s.lane l with state := .jammed, measurement := none } with laneAlert := true } s

section
variable {R : State → State → Prop}

theorem Settling.foldl (h : Settling R) {β : Type} {f : State → β → State} (hf : ∀ a b, R (f a b) a) (xs : List β) (s : State) :
    R (xs.foldl f s) s :=
  List.foldlRecOn xs f (motive := fun a => R a s) (h.refl s) fun a ha b _ => h.trans (hf a b) ha

theorem Settling.forStations (h : Settling R) {f : StationNo → State → State} (hf : ∀ n a, R (f n a) a) (s : State) :
    R (forStations f s) s := h.foldl (fun a n => hf n a) allStations s

theorem Settling.forLanes (h : Settling R) {f : LaneNo → State → State} (hf : ∀ l a, R (f l a) a) (s : State) :
    R (forLanes f s) s := h.foldl (fun a l => hf l a) allLanes s

theorem Settling.retireAndCheck (h : Settling R) (t : Byte) (c : OutcomeCode) (s : State) : R (retireAndCheck t c s) s :=
  h.trans (h.drainCheck _) (h.retire t c s)

theorem Settling.pulseEnd (h : Settling R) (n : StationNo) (t : Byte) (c : OutcomeCode) (s : State) : R (pulseEnd n t c s) s :=
  h.trans (h.retireAndCheck t c _) (h.setStation s n _)

theorem Settling.takeTimePulseEnd (h : Settling R) (n : StationNo) (s : State) : R (takeTimePulseEnd n s) s := by
  obtain e | ⟨q, c, -, e⟩ := takeTimePulseEnd_cases n s <;> rw [e]
  · exact h.refl s
  · exact h.pulseEnd n q.tag c s

theorem Settling.takeMaxOnCut (h : Settling R) (n : StationNo) (s : State) : R (takeMaxOnCut n s) s := by
  obtain e | ⟨q, -, e⟩ := takeMaxOnCut_cases n s <;> rw [e]
  · exact h.refl s
  · exact h.pulseEnd n q.tag .firedCut s

theorem Settling.takeOffPosition (h : Settling R) (n : StationNo) (s : State) : R (takeOffPosition n s) s := by
  obtain e | ⟨q, c, -, e⟩ := takeOffPosition_cases n s <;> rw [e]
  · exact h.refl s
  · exact h.pulseEnd n q.tag c s

theorem Settling.takeRecoveryEnd (h : Settling R) (n : StationNo) (s : State) : R (takeRecoveryEnd n s) s := by
  unfold Machine.takeRecoveryEnd
  split
  · split
    · exact h.setStation s n _
    · exact h.refl s
  · exact h.refl s

theorem Settling.takeGuardMark (h : Settling R) (n : StationNo) (s : State) : R (takeGuardMark n s) s := by
  unfold Machine.takeGuardMark
  split
  · exact h.setStation s n _
  · exact h.refl s

theorem Settling.takeArrival (h : Settling R) (n : StationNo) (s : State) : R (takeArrival n s) s := by
  obtain e | ⟨t, o, -, -, e⟩ | ⟨t, o, -, e⟩ := takeArrival_cases n s <;> rw [e]
  · exact h.refl s
  · exact h.trans (h.modifyRecord _ t _) (h.setStation s n _)
  · exact h.trans (h.retireAndCheck t .collided _) (h.setStation s n _)

theorem Settling.takeJam (h : Settling R) (l : LaneNo) (s : State) : R (takeJam l s) s := by
  unfold Machine.takeJam
  split
  · exact h.refl s
  · exact h.trans (h.drainCheck _) (h.trans (h.jammed _ l) (h.retire _ .overlength s))

theorem Settling.place (h : Settling R) (t : Byte) (v : Verdict) (o : Order) (tags : List Byte) (s : State) :
    R (place t v o tags s) s :=
  h.trans (h.modifyRecord _ t _) <| h.trans (h.setStation _ v.station _) <| h.trans (h.dropAnnounce _ t) <|
    h.foldl (fun a u => h.retireAndCheck u .bumped a) tags s

theorem Settling.defaultEject (h : Settling R) (r : ItemRecord) (s : State) : R (defaultEject r s) s := by
  unfold Machine.defaultEject
  simp only
  split
  · exact h.trans (h.retireAndCheck r.tag _ _) (h.modifyRecord s r.tag _)
  · split
    · exact h.trans (h.retireAndCheck r.tag _ _) (h.modifyRecord s r.tag _)
    · split
      · exact h.trans (h.retireAndCheck r.tag _ _) (h.modifyRecord s r.tag _)
      · exact h.trans (h.place r.tag _ _ _ _) (h.modifyRecord s r.tag _)

theorem Settling.takeDeadline (h : Settling R) (t : Byte) (s : State) : R (takeDeadline t s) s := by
  unfold Machine.takeDeadline
  split
  · exact h.refl s
  · split
    · split
      · exact h.retireAndCheck t _ s
      · exact h.defaultEject _ s
    · exact h.refl s

theorem Settling.settleEngines (h : Settling R) (s : State) : R (settleEngines s) s :=
  h.trans (h.forStations h.takeRecoveryEnd _) <| h.trans (h.forStations h.takeMaxOnCut _) <|
    h.forStations h.takeTimePulseEnd s

theorem Settling.settleReached (h : Settling R) (s : State) : R (settleReached s) s :=
  h.trans (h.foldl (fun a t => h.takeDeadline t a) _ _) <| h.trans (h.forLanes h.takeJam _) <|
    h.trans (h.forStations h.takeArrival _) <| h.trans (h.forStations h.takeOffPosition _) <|
      h.forStations h.takeGuardMark s

theorem Settling.settleDue (h : Settling R) (s : State) : R (settleDue s) s :=
  h.trans (h.settleReached _) (h.settleEngines s)

end

/-! ### No jam left over (R9, R42) -/

/-- Every measurement of `s'` is one of `s`. -/
def MeasuresIn (s' s : State) : Prop :=
  ∀ l m, (s'.lane l).measurement = some m → (s.lane l).measurement = some m

theorem drainCheck_measuresIn (s : State) : MeasuresIn (drainCheck s) s := by
  unfold drainCheck
  split
  · intro l m hm
    have : (drainComplete s).lane l = (s.lane l).toOff := lane_lanesOff s l
    simp [this, Lane.toOff] at hm
  · exact fun _ _ => id

theorem measuresIn_settling : Settling MeasuresIn where
  refl _ _ _ := id
  trans h h' l m hm := h' l m (h l m hm)
  setStation _ _ _ _ _ := id
  modifyRecord _ _ _ _ _ := id
  dropAnnounce _ _ _ _ := id
  retire t c s l m hm := by rwa [retire_lane] at hm
  drainCheck := drainCheck_measuresIn
  jammed s l k m hm := by
    change ((s.setLane l _).lane k).measurement = some m at hm
    rw [lane_setLane] at hm
    split at hm
    · simp at hm
    · exact hm

/-- A jam that is due drops the measurement of its lane, and begins none. -/
theorem takeJam_measurement {l k : LaneNo} {t : Byte} {m : Measurement} (hj : s.jamDue l = some t)
    (hm : ((takeJam l s).lane k).measurement = some m) : k ≠ l ∧ (s.lane k).measurement = some m := by
  simp only [takeJam, hj] at hm
  have hm' := drainCheck_measuresIn _ k m hm
  change (((retire t .overlength s).setLane l _).lane k).measurement = some m at hm'
  rw [lane_setLane] at hm'
  split at hm'
  · simp at hm'
  · next e => exact ⟨e, by rwa [retire_lane] at hm'⟩

/-- Lane `l` does not stand at its jam position. -/
def State.JamClear (s : State) (l : LaneNo) : Prop := ∀ m, (s.lane l).measurement = some m → m.jam ≠ s.p

theorem State.JamClear.of_measuresIn {l : LaneNo} (h : s.JamClear l) (hm : MeasuresIn s' s) (hp : s'.p = s.p) : s'.JamClear l :=
  fun m hm' => by rw [hp]; exact h m (hm l m hm')

/-- The jam taken, its lane does not stand at its jam position. -/
theorem State.Coupled.takeJam_clear (h : s.Coupled P) (l : LaneNo) : (takeJam l s).JamClear l := by
  intro m hm e
  rw [takeJam_p] at e
  cases hj : s.jamDue l with
  | none =>
    rw [takeJam_notDue hj] at hm
    have hs := (h.measuring_iff l).2 (by simp [hm])
    simp [State.jamDue, hs, hm, e] at hj
  | some t => exact (takeJam_measurement hj hm).1 rfl

/-! ### Folds over the stations, the lanes and the records -/

theorem foldl_coupled {β : Type} {f : State → β → State} (hf : ∀ a b, a.Coupled P → (f a b).Coupled P) (xs : List β)
    (h : s.Coupled P) : (xs.foldl f s).Coupled P :=
  List.foldlRecOn xs f h fun a ha b _ => hf a b ha

theorem State.Coupled.forStations_keeps {f : StationNo → State → State} (hf : ∀ n a, a.Coupled P → (f n a).Coupled P)
    (h : s.Coupled P) : (forStations f s).Coupled P := foldl_coupled (fun a n => hf n a) allStations h

theorem State.Coupled.forLanes_keeps {f : LaneNo → State → State} (hf : ∀ l a, a.Coupled P → (f l a).Coupled P)
    (h : s.Coupled P) : (forLanes f s).Coupled P := foldl_coupled (fun a l => hf l a) allLanes h

/-! ### Settling (log 2) -/

/-- Every lane that has taken its jam, one after the other, does not stand at its jam position. -/
theorem State.Coupled.foldl_takeJam_clear (h : s.Coupled ItemRecord.presence) {l : LaneNo} {ls : List LaneNo} (hl : l ∈ ls) :
    (ls.foldl (fun a k => takeJam k a) s).JamClear l := by
  induction ls generalizing s with
  | nil => exact absurd hl (by simp)
  | cons k ks ih =>
    by_cases hks : l ∈ ks
    · exact ih (h.takeJam_keeps k) hks
    · obtain rfl : l = k := by simpa [hks] using hl
      exact (h.takeJam_clear l).of_measuresIn (measuresIn_settling.foldl (fun a k => measuresIn_settling.takeJam k a) ks _)
        (foldl_keeps State.p _ (fun a k => takeJam_p k a) ks _)

theorem mem_allLanes (l : LaneNo) : l ∈ allLanes := by decide +revert

theorem State.Coupled.settleReached_keeps (h : s.Coupled ItemRecord.presence) :
    (settleReached s).Coupled ItemRecord.presence ∧ ∀ l, (settleReached s).JamClear l := by
  have hd := ((h.forStations_keeps fun n _ ha => ha.takeGuardMark_keeps n).forStations_keeps
    fun n _ ha => ha.takeOffPosition_keeps n).forStations_keeps fun n _ ha => ha.takeArrival_keeps n
  refine ⟨foldl_coupled (fun a t ha => ha.takeDeadline_keeps t) _ (hd.forLanes_keeps fun l _ ha => ha.takeJam_keeps l),
    fun l => ?_⟩
  refine (hd.foldl_takeJam_clear (mem_allLanes l)).of_measuresIn (measuresIn_settling.foldl (fun a t => measuresIn_settling.takeDeadline t a) _ _) ?_
  exact foldl_keeps State.p _ (fun a t => takeDeadline_p t a) _ _

theorem State.Coupled.settleEngines_keeps (h : s.Coupled ItemRecord.presence) :
    (settleEngines s).Coupled ItemRecord.presence :=
  ((h.forStations_keeps fun n _ ha => ha.takeTimePulseEnd_keeps n).forStations_keeps
    fun n _ ha => ha.takeMaxOnCut_keeps n).forStations_keeps fun n _ ha => ha.takeRecoveryEnd_keeps n

theorem State.Coupled.settleDue_keeps (h : s.Coupled ItemRecord.presence) : (settleDue s).Coupled ItemRecord.presence :=
  h.settleEngines_keeps.settleReached_keeps.1

/-! ### The advance (R5) -/

/-- Not past the jam position and not at it: after one more count not past it (R28, R42). -/
theorem length_succ_le {p lead : Pos} {maxLength : Half} (h : (p - lead).toNat ≤ maxLength.toNat + 1)
    (hj : jamPosition lead maxLength ≠ p) : (p + 1 - lead).toNat ≤ maxLength.toNat + 1 := by
  unfold jamPosition at hj
  bv_omega

/-- P moves on where no lane stands at its jam position. -/
theorem State.Coupled.count_keeps (h : s.Coupled P) (hj : ∀ l, s.JamClear l) : ({ s with p := s.p + 1 } : State).Coupled P where
  table := h.table
  backlog := h.backlog
  records := h.records
  pulses := h.pulses
  rest := h.rest
  lanes := by
    refine ⟨h.measuring_iff, fun l m hm => h.measured hm, fun r hr hs => ?_⟩
    obtain ⟨hm, hle⟩ := h.measures hr hs
    obtain ⟨m, hm', hmt⟩ := Option.map_eq_some_iff.1 hm
    obtain ⟨x, hx, hxt, -, -, hjam⟩ := h.measured hm'
    rw [h.table.tag_inj hr hx (hxt.trans hmt)] at hjam
    exact ⟨hm, length_succ_le hle (hjam ▸ hj r.lane m hm')⟩

theorem State.Coupled.advance_keeps (h : s.Coupled ItemRecord.presence) : (advance s).Coupled ItemRecord.presence := by
  obtain ⟨h', hj⟩ := h.settleReached_keeps
  unfold advance
  simp only
  split
  · exact h'.count_keeps hj
  · exact h'

/-- The waiting advance is dropped. -/
theorem State.Coupled.dropAdvance_keeps (h : s.Coupled P) : ({ s with advanceDue := false } : State).Coupled P :=
  h.frame rfl rfl rfl rfl rfl rfl fun _ hd => by simp at hd

theorem State.Coupled.takeDueAdvance_keeps (h : s.Coupled ItemRecord.presence) :
    (takeDueAdvance s).Coupled ItemRecord.presence := by
  unfold takeDueAdvance
  split
  · simp only
    split
    · exact h.dropAdvance_keeps.advance_keeps
    · exact h.dropAdvance_keeps
  · exact h

/-! ### What comes before an access, an edge or a tick (log 1, log 2) -/

theorem State.Coupled.takeXstop_keeps (h : s.Coupled ItemRecord.presence) (d : EdgeDir) :
    (takeXstop d s).Coupled ItemRecord.presence := by
  cases d with
  | rising => exact h
  | falling =>
    simp only [takeXstop]
    split
    · split
      · exact h.settleDue_keeps.haltEntry_coupled .xstop
      · exact h.settleDue_keeps
    · exact h

theorem State.Coupled.flushXstop_keeps (h : s.Coupled ItemRecord.presence) : (flushXstop s).Coupled ItemRecord.presence := by
  unfold flushXstop
  split
  · exact h
  · refine State.Coupled.takeXstop_keeps ?_ _
    exact h.frame rfl rfl rfl rfl rfl rfl fun _ => id

theorem State.Coupled.finishTick_keeps (h : s.Coupled ItemRecord.presence) : (finishTick s).Coupled ItemRecord.presence :=
  (h.settleEngines_keeps.takeDueAdvance_keeps.forLanes_keeps fun l _ ha => ha.flushLane_keeps l).flushXstop_keeps

theorem State.Coupled.settleAll_keeps (h : s.Coupled ItemRecord.presence) : (settleAll s).Coupled ItemRecord.presence :=
  (((h.settleDue_keeps.takeDueAdvance_keeps.settleReached_keeps.1.forStations_keeps
    fun n _ ha => ha.takeLateTick_keeps n).settleEngines_keeps).forLanes_keeps fun l _ ha => ha.flushLane_keeps l).flushXstop_keeps

theorem State.Coupled.event_keeps {f : State → State} (h : s.Coupled P) (hf : s.Coupled P → (f s).Coupled P) :
    (event f s).Coupled P := by
  unfold event
  split
  · exact h
  · exact hf h

/-! ### The tick (R1) -/

theorem State.Coupled.sampleEncoder_keeps (h : s.Coupled P) (x : Level) : (sampleEncoder x s).Coupled P :=
  h.frame rfl rfl rfl rfl rfl rfl fun hr hd => by simp [sampleEncoder, hr] at hd

theorem State.Coupled.sampleLanes_keeps (h : s.Coupled P) (sns : Vector Level 4) : (sampleLanes sns s).Coupled P :=
  h.forLanes_keeps fun l _ ha => ha.setLane_keeps l _ rfl .rfl fun _ => id

theorem State.Coupled.countRate_keeps (h : s.Coupled P) : (countRate s).Coupled P := by
  unfold countRate
  split
  next hr =>
    split
    · exact h.frame rfl rfl rfl rfl rfl rfl fun hn => by simp [hn] at hr
    · exact h.frame rfl rfl rfl rfl rfl rfl fun _ => id
  next => exact h

theorem State.Coupled.tickNow_keeps (h : s.Coupled ItemRecord.presence) (pins : PinSamples) (late : BitVec 8) :
    (tickNow pins late s).Coupled ItemRecord.presence := by
  have h₁ : ({ s with divCount := s.timebase.divider } : State).Coupled ItemRecord.presence :=
    h.frame rfl rfl rfl rfl rfl rfl fun _ => id
  have h₂ : (sampleXstop pins.xstop (sampleEncoder pins.enc { s with divCount := s.timebase.divider })).Coupled
      ItemRecord.presence :=
    (h₁.sampleEncoder_keeps pins.enc).frame rfl rfl rfl rfl rfl rfl fun _ => id
  unfold tickNow tickEngines
  refine (h₂.sampleLanes_keeps pins.sns).countRate_keeps.forStations_keeps fun n a ha => ?_
  simp only
  split
  · exact ha.setStation_keeps n _ fun q hq => ⟨q, hq, rfl⟩
  · exact ha.engineTick_keeps n

end
end Sys2Proof.Machine
end

section
/-! What the commands keep of the coupled laws. -/

namespace Sys2Proof.Machine

section
variable {P : ItemRecord → Prop} {s : State}

/-! ### SET_LANE and START on a lane (R17, R31, R32) -/

/-- Writing the sensor fields moves no lane into or out of MEASURING or OFF (R31). -/
theorem Lane.sensorFields_spec (x : Lane) (r : LaneRecord) :
    (x.sensorFields r).measurement = x.measurement ∧
      ((x.sensorFields r).state = .measuring ↔ x.state = .measuring) ∧ (x.state = .off → (x.sensorFields r).state = .off) := by
  unfold Lane.sensorFields
  simp only
  split
  next hs => simp [Lane.inForce, hs]
  next hs =>
    exact ⟨rfl, iff_of_false (Lane.settleOrClear_state_ne _) (by simp [hs]), by simp [hs]⟩
  next hs => split <;> simp [Lane.inForce, hs]
  all_goals next hs => simp [hs]

@[simp] theorem Lane.enterSettling_measurement (x : Lane) : x.enterSettling.measurement = x.measurement := by
  unfold Lane.enterSettling Lane.applyPending
  split <;> rfl

theorem Lane.enterSettling_state_ne (x : Lane) : x.enterSettling.state ≠ .measuring :=
  x.applyPending.settleOrClear_state_ne

/-- Writing ENABLE moves no lane into or out of MEASURING, and outside RUN no OFF lane on (R32). -/
theorem Lane.enableChange_spec (x : Lane) (b : Bool) (rs : RunState) :
    (x.enableChange b rs).measurement = x.measurement ∧
      ((x.enableChange b rs).state = .measuring ↔ x.state = .measuring) ∧
      (rs ≠ .run → x.state = .off → (x.enableChange b rs).state = .off) := by
  unfold Lane.enableChange
  cases b with
  | true =>
    simp only [if_true]
    split
    next hc =>
      refine ⟨Lane.enterSettling_measurement _, ?_, fun hr => absurd hc.2 hr⟩
      simp [Lane.enterSettling_state_ne, hc.1]
    next => simp
  | false =>
    simp only [Bool.false_eq_true, if_false]
    split <;> simp [*]

theorem State.Coupled.doSetLane_keeps (h : s.Coupled P) : (doSetLane s).2.Coupled P := by
  unfold doSetLane
  split
  · exact h
  · next l r _ =>
    obtain ⟨hm₁, hs₁, ho₁⟩ := (s.lane l).sensorFields_spec r
    obtain ⟨hm₂, hs₂, ho₂⟩ := ((s.lane l).sensorFields r).enableChange_spec r.enable s.run
    exact h.setLane_keeps l _ (hm₂.trans hm₁) (hs₂.trans hs₁) fun hr ho => ho₂ (fun e => by simp [State.running, e] at hr) (ho₁ ho)

/-- START of a line in IDLE, where every lane is OFF (R16, R17). -/
theorem State.Coupled.doStart_keeps (h : s.Coupled P) : (doStart s).2.Coupled P := by
  unfold doStart
  split
  · exact h
  · next hi =>
    split
    · exact h
    · obtain ⟨-, -, hoff, -⟩ := h.rest (.inl (not_not.1 hi))
      have hlane : ∀ l, (Vector.map Lane.atStart s.lanes)[l.val] = (s.lane l).atStart := fun l => by simp [State.lane]
      refine h.congr rfl rfl rfl (fun n q hq => ⟨q, hq, rfl⟩) (fun l => ?_) (fun l => ?_) fun hr => by simp at hr
      · refine (congrArg Lane.measurement (hlane l)).trans ?_
        unfold Lane.atStart
        split <;> simp
      · refine (Eq.to_iff (congrArg (fun x => Lane.state x = .measuring) (hlane l))).trans ?_
        unfold Lane.atStart
        split <;> simp [Lane.enterSettling_state_ne, hoff l]

/-! ### The other commands -/

@[simp] theorem refuse_state (c : ResultCode) (s : State) : (refuse c s).2 = s := rfl

theorem State.Coupled.doDrain_keeps (h : s.Coupled P) : (doDrain s).2.Coupled P := by
  unfold doDrain
  split
  · exact h
  · refine State.Coupled.drainCheck_keeps ?_
    exact h.congr rfl rfl rfl (fun n q hq => ⟨q, hq, rfl⟩) (fun _ => rfl) (fun _ => .rfl) fun hr => by simp at hr

theorem State.Coupled.doHalt_keeps (h : s.Coupled ItemRecord.presence) : (doHalt s).2.Coupled ItemRecord.presence := by
  unfold doHalt
  split
  · exact h
  · simp only
    split
    · rw [refuse_state]; exact h.settleDue_keeps
    · exact h.settleDue_keeps.haltEntry_coupled .command

theorem State.Coupled.doResume_keeps (h : s.Coupled P) : (doResume s).2.Coupled P := by
  unfold doResume
  split
  · exact h
  · next hh =>
    split
    · exact h
    · refine h.congr rfl rfl rfl (fun n q hq => ⟨q, hq, rfl⟩) (fun _ => rfl) (fun _ => .rfl) fun _ => ?_
      obtain ⟨hlive, hon, hoff, ha⟩ := h.rest (.inr (not_not.1 hh))
      exact ⟨hlive, hon, hoff, ha⟩

/-- In IDLE nothing is live, no engine is ON, every lane is OFF and measures nothing, and no advance waits (R16). -/
theorem State.Coupled.idle_spec (h : s.Coupled P) (hi : s.run = .idle) :
    s.hasLive = false ∧ (∀ n, (s.station n).engine.isOn = false) ∧
      (∀ l, (s.lane l).state = .off ∧ (s.lane l).measurement = none) ∧ s.advanceDue = false := by
  obtain ⟨hlive, hon, hoff, ha⟩ := h.rest (.inl hi)
  exact ⟨hlive, hon, fun l => ⟨hoff l, h.measurement_of_off (hoff l)⟩, ha⟩

/-- CLEAR_LINE leaves the table empty, since nothing is live in IDLE (R26). -/
theorem State.Coupled.doClearLine_keeps (h : s.Coupled P) : (doClearLine s).2.Coupled P := by
  unfold doClearLine
  split
  · exact h
  · next hi =>
    obtain ⟨hlive, hon, hoff, ha⟩ := h.idle_spec (not_not.1 hi)
    have hempty : s.items.filter ItemRecord.isLive = [] :=
      List.filter_eq_nil_iff.2 fun r hr => by simp [ItemRecord.isLive, State.hasLive_eq_false.1 hlive r hr]
    refine State.Filed.coupled_of_rest ⟨?_, ?_, ?_⟩ ?_ hon (fun l => ?_) ha
    · simp [State.tableLaw, hempty]
    · simp [State.backlogLaw, hempty]
    · simp [hempty]
    · simp [State.hasLive, hempty]
    · simpa [State.lane] using hoff l

theorem State.Coupled.doSetTimebase_keeps (h : s.Coupled P) : (doSetTimebase s).2.Coupled P := by
  unfold doSetTimebase
  split
  · exact h
  · split
    · exact h
    · exact h.frame rfl rfl rfl rfl rfl rfl fun _ => id

/-- SET_POSITION is taken in IDLE, where nothing is measured (R14). -/
theorem State.Coupled.doSetPosition_keeps (h : s.Coupled P) : (doSetPosition s).2.Coupled P := by
  unfold doSetPosition
  split
  · exact h
  · next hi =>
    obtain ⟨hlive, hon, hoff, ha⟩ := h.idle_spec (not_not.1 hi)
    refine State.Filed.coupled_of_rest ⟨h.table, h.backlog, h.records⟩ hlive (fun n => ?_) hoff ha
    simpa [State.station] using hon n

/-- A station that is not busy is not ON, and is not ON after SET_STATION (R98, R99). -/
theorem State.Coupled.doSetStation_keeps (h : s.Coupled P) : (doSetStation s).2.Coupled P := by
  unfold doSetStation
  split
  · exact h
  · next n r _ =>
    simp only
    split
    · exact h
    · refine h.setStation_keeps n _ fun q hq => ⟨q, ?_, rfl⟩
      revert hq
      cases (s.station n).engine <;> cases r.enable <;> simp [Engine.withEnable]

/-- The reply window, the parameters and the like are no part of the laws. -/
theorem State.Coupled.reads_keep (h : s.Coupled P) :
    (doReadLane s).2.Coupled P ∧ (doReadStation s).2.Coupled P ∧ (doReadProfile s).2.Coupled P ∧
      (doReadItem s).2.Coupled P ∧ (doReadTimebase s).2.Coupled P ∧ (doNextDetection s).2.Coupled P ∧
      (doSetProfile s).2.Coupled P ∧ (doSetFreeThreshold s).2.Coupled P := by
  refine ⟨?_, ?_, ?_, ?_, h.frame rfl rfl rfl rfl rfl rfl fun _ => id, ?_, ?_, ?_⟩
  · unfold doReadLane; split
    · exact h
    · exact h.frame rfl rfl rfl rfl rfl rfl fun _ => id
  · unfold doReadStation; split
    · exact h
    · exact h.frame rfl rfl rfl rfl rfl rfl fun _ => id
  · unfold doReadProfile; split
    · exact h
    · exact h.frame rfl rfl rfl rfl rfl rfl fun _ => id
  · unfold doReadItem; split
    · exact h
    · exact h.frame rfl rfl rfl rfl rfl rfl fun _ => id
  · unfold doNextDetection; split
    · exact h
    · split
      · exact h
      · exact h.frame rfl rfl rfl rfl rfl rfl fun _ => id
  · unfold doSetProfile; split
    · exact h
    · exact h.frame rfl rfl rfl rfl rfl rfl fun _ => id
  · unfold doSetFreeThreshold; split
    · exact h
    · exact h.frame rfl rfl rfl rfl rfl rfl fun _ => id

theorem State.Coupled.doNextOutcome_keeps (h : s.Coupled P) : (doNextOutcome s).2.Coupled P := by
  unfold doNextOutcome
  split
  · exact h
  · refine State.Coupled.promote_keeps ?_
    exact h.frame rfl rfl rfl rfl rfl rfl fun _ => id

theorem keyCheck_spec {r : ItemRecord} (hk : s.keyCheck = .inr r) : r ∈ s.items := by
  unfold State.keyCheck at hk
  split at hk
  · simp at hk
  · next x hx =>
    split at hk
    · obtain rfl := Sum.inr.inj hk
      exact (liveRecord_spec hx).1
    · simp at hk

theorem State.Coupled.doVerdict_keeps (h : s.Coupled ItemRecord.presence) : (doVerdict s).2.Coupled ItemRecord.presence := by
  unfold doVerdict
  split
  · exact h
  · next r hk =>
    have hr := keyCheck_spec hk
    split
    next => exact h
    next hs =>
      unfold verdictPending
      split
      · exact h
      · simp only
        split
        · exact h
        · split
          · exact h
          · split
            · exact h
            · split
              · exact h
              · next ha =>
                refine State.Coupled.place_keeps ?_ ⟨r, hr, rfl⟩ ha
                exact h.mono fun x hx => ItemRecord.presenceBut_of_presence hs (h.records r hr) (h.table.tag_inj hr hx)
    all_goals exact h

theorem State.Coupled.doPass_keeps (h : s.Coupled ItemRecord.presence) : (doPass s).2.Coupled ItemRecord.presence := by
  unfold doPass
  split
  · exact h
  · next r hk =>
    split
    next => exact h
    next hs => exact h.retirePending_keeps (keyCheck_spec hk) (.inl hs) .passed
    all_goals exact h

theorem State.Coupled.doAbort_keeps (h : s.Coupled ItemRecord.presence) : (doAbort s).2.Coupled ItemRecord.presence := by
  unfold doAbort
  split
  · exact h
  · next r hk =>
    split
    next => exact h
    next hs => exact h.retirePending_keeps (keyCheck_spec hk) (.inl hs) .aborted
    next hs => exact h.retirePending_keeps (keyCheck_spec hk) (.inr hs) .aborted
    all_goals exact h

theorem State.Coupled.commandBody_keeps (h : s.Coupled ItemRecord.presence) (c : HostCommand) :
    (commandBody c s).2.Coupled ItemRecord.presence := by
  obtain ⟨hlane, hstation, hprofile, hitem, htimebase, hdetection, hsetProfile, hthreshold⟩ := h.reads_keep
  cases c with
  | start => exact h.doStart_keeps
  | drain => exact h.doDrain_keeps
  | halt => exact h.doHalt_keeps
  | resume => exact h.doResume_keeps
  | clearLine => exact h.doClearLine_keeps
  | setTimebase => exact h.doSetTimebase_keeps
  | setPosition => exact h.doSetPosition_keeps
  | setLane => exact h.doSetLane_keeps
  | setStation => exact h.doSetStation_keeps
  | setProfile => exact hsetProfile
  | setFreeThreshold => exact hthreshold
  | readLane => exact hlane
  | readStation => exact hstation
  | readProfile => exact hprofile
  | readItem => exact hitem
  | readTimebase => exact htimebase
  | nextDetection => exact hdetection
  | nextOutcome => exact h.doNextOutcome_keeps
  | verdict => exact h.doVerdict_keeps
  | pass => exact h.doPass_keeps
  | abort => exact h.doAbort_keeps

theorem State.Coupled.runCommand_keeps (h : s.Coupled ItemRecord.presence) (c : HostCommand) :
    (runCommand c s).Coupled ItemRecord.presence := by
  unfold runCommand
  split
  · exact h
  · exact (h.finishTick_keeps.commandBody_keeps c).frame rfl rfl rfl rfl rfl rfl fun _ => id

end
end Sys2Proof.Machine
end

section
/-! Every row keeps the coupled laws. -/

namespace Sys2Proof.Machine

section
variable {P : ItemRecord → Prop} {s t : State}

/-! ### The rows: the coupled laws -/

theorem State.Coupled.writeCmd_keeps (h : s.Coupled ItemRecord.presence) (b : Byte) :
    (writeCmd b s).Coupled ItemRecord.presence := by
  unfold writeCmd
  split
  · exact h.runCommand_keeps _
  · exact h.event_keeps fun _ => h.frame rfl rfl rfl rfl rfl rfl fun _ => id

theorem State.Coupled.access_keeps {f : State → State} (h : s.Coupled ItemRecord.presence)
    (hf : ∀ a, a.Coupled ItemRecord.presence → (f a).Coupled ItemRecord.presence) :
    (access f s).Coupled ItemRecord.presence := h.event_keeps fun h => hf _ h.finishTick_keeps

theorem State.Coupled.clearFlags_keeps (h : s.Coupled ItemRecord.presence) (b : Byte) :
    (clearFlags b s).Coupled ItemRecord.presence :=
  h.access_keeps fun _ ha => ha.frame rfl rfl rfl rfl rfl rfl fun _ => id

theorem State.Coupled.deliver_keeps (h : s.Coupled ItemRecord.presence) (a : BitVec 6) (b : Byte) :
    (deliver a b s).Coupled ItemRecord.presence := by
  unfold deliver
  simp only
  split
  · exact h.writeCmd_keeps b
  · split
    · exact h.frame rfl rfl rfl rfl rfl rfl fun _ => id
    · split
      · exact h.clearFlags_keeps b
      · split
        · exact h.frame rfl rfl rfl rfl rfl rfl fun _ => id
        · exact h

theorem sound_reset : State.reset.Sound := State.sound_of_check (by decide +kernel)

/-- The reset state meets the laws, whatever commands wait (R162). -/
theorem resetState_coupled (s : State) : (resetState s).Coupled ItemRecord.presence :=
  sound_reset.coupled.frame rfl rfl rfl rfl rfl rfl fun _ => id

theorem State.Coupled.edgeStart_keeps (h : s.Coupled ItemRecord.presence) (waits : Bool) :
    (edgeStart waits s).Coupled ItemRecord.presence := by
  unfold edgeStart
  split
  · exact h
  · exact h.finishTick_keeps

theorem State.Coupled.takeEncoder_keeps (h : s.Coupled ItemRecord.presence) (d : EdgeDir) :
    (takeEncoder d s).Coupled ItemRecord.presence := by
  have h' : ({ s with encFilter := filterAt s.encFilter (edgeLevel d) } : State).Coupled ItemRecord.presence :=
    h.frame rfl rfl rfl rfl rfl rfl fun _ => id
  unfold takeEncoder
  simp only
  split
  · exact h'.advance_keeps
  · exact h'

theorem State.Coupled.laneEdge_keeps (h : s.Coupled ItemRecord.presence) (l : LaneNo) (x : Sense) :
    (laneEdge l x s).Coupled ItemRecord.presence := by
  refine State.Coupled.takeSense_keeps ?_ l x
  exact (h.edgeStart_keeps _).setLane_keeps l _ rfl .rfl fun _ => id

theorem State.Coupled.xstopChange_keeps (h : s.Coupled ItemRecord.presence) (d : EdgeDir) :
    (xstopChange d s).Coupled ItemRecord.presence := by
  refine State.Coupled.takeXstop_keeps ?_ d
  exact (h.edgeStart_keeps _).frame rfl rfl rfl rfl rfl rfl fun _ => id

theorem State.Coupled.takeRateExpiry_keeps (h : s.Coupled ItemRecord.presence) :
    (takeRateExpiry s).Coupled ItemRecord.presence := by
  unfold takeRateExpiry
  split
  · exact h.takeDueAdvance_keeps
  · exact h

/-- Every row keeps the laws of the lanes, the records and the rest states. -/
theorem State.Coupled.exec_keeps (h : s.Coupled ItemRecord.presence) (c : Instr) (he : exec c s = .next t) :
    t.Coupled ItemRecord.presence := by
  cases c <;> obtain rfl := Host.Outcome.next.inj he
  case badCommand b => exact h.writeCmd_keeps b
  case paramWrite => exact h.event_keeps fun _ => h.frame rfl rfl rfl rfl rfl rfl fun _ => id
  case irqEnableWrite => exact h.event_keeps fun _ => h.frame rfl rfl rfl rfl rfl rfl fun _ => id
  case irqFlagsWrite b => exact h.clearFlags_keeps b
  case pos0Read => exact h.access_keeps fun _ ha => ha.frame rfl rfl rfl rfl rfl rfl fun _ => id
  case registerWrite a b y =>
    refine h.event_keeps fun _ => ?_
    split
    · exact h.deliver_keeps a b
    · exact h
  case reset n =>
    split
    · exact (resetState_coupled s).frame rfl rfl rfl rfl rfl rfl fun _ => id
    · exact h
  case resetRelease =>
    split
    · exact (resetState_coupled s).frame rfl rfl rfl rfl rfl rfl fun _ => id
    · exact h
  case tick pins late => exact h.event_keeps fun _ => h.settleAll_keeps.tickNow_keeps pins late
  case encoderEdge d => exact h.event_keeps fun _ => (h.edgeStart_keeps _).dropAdvance_keeps.takeEncoder_keeps d
  case rateCountdownExpiry => exact h.event_keeps State.Coupled.takeRateExpiry_keeps
  case xstopActive => exact h.event_keeps fun _ => h.xstopChange_keeps .falling
  case xstopInactive => exact h.event_keeps fun _ => h.xstopChange_keeps .rising
  case leadEdge l => exact h.event_keeps fun _ => h.laneEdge_keeps l .lead
  case trailingEdge l => exact h.event_keeps fun _ => h.laneEdge_keeps l .trailing
  case jam l => exact h.event_keeps fun _ => h.takeJam_keeps l
  case deadline u => exact h.event_keeps fun _ => h.takeDeadline_keeps u
  case arrival n => exact h.event_keeps fun _ => h.takeArrival_keeps n
  case offPositionReached n => exact h.event_keeps fun _ => h.takeOffPosition_keeps n
  case timePulseEnd n => exact h.event_keeps fun _ => (h.takeLateTick_keeps n).takeTimePulseEnd_keeps n
  case maxOnCut n => exact h.event_keeps fun _ => (h.takeLateTick_keeps n).takeMaxOnCut_keeps n
  case recoveryEnd n => exact h.event_keeps fun _ => (h.takeLateTick_keeps n).takeRecoveryEnd_keeps n
  case guardMarkReached n => exact h.event_keeps fun _ => h.takeGuardMark_keeps n
  case drainCompletion => exact h.event_keeps State.Coupled.drainCheck_keeps
  case backlogPromotion => exact h.event_keeps State.Coupled.promote_keeps
  all_goals exact h.runCommand_keeps _

/-- A step with no command waiting counts the divider at most. -/
theorem idleClock_eq (s : State) :
    idleClock s = { s with divCount := if s.inReset = true ∨ s.divCount = 0 then s.divCount else s.divCount - 1 } := by
  unfold idleClock
  split <;> rfl

theorem State.Coupled.step_keeps (h : s.Coupled ItemRecord.presence) (hs : step s = .next t) :
    t.Coupled ItemRecord.presence := by
  unfold step at hs
  split at hs
  · obtain rfl := Host.Outcome.next.inj hs
    rw [idleClock_eq]
    exact h.frame rfl rfl rfl rfl rfl rfl fun _ => id
  · next c rest _ =>
    have h' : ({ s with pending := rest } : State).Coupled ItemRecord.presence :=
      h.frame rfl rfl rfl rfl rfl rfl fun _ => id
    exact h'.exec_keeps c hs

end
end Sys2Proof.Machine
end

section
/-! What every row keeps of the position latch and the timebase record. -/

namespace Sys2Proof.Machine

section
variable {s t : State}

/-! ### The position latch and the timebase law (R7, R10, R15) -/

theorem State.timebaseLaw.congr (h : s.timebaseLaw) (ht : t.timebase = s.timebase) (hk : t.k = s.k) : t.timebaseLaw := by
  simpa [State.timebaseLaw, ht, hk] using h

/-- From `s` to `t` the position latch stays, and the timebase record and K stay in their ranges. -/
structure Steady (t s : State) : Prop where
  latchMid  : t.latchMid = s.latchMid
  latchHigh : t.latchHigh = s.latchHigh
  timebase  : s.timebaseLaw → t.timebaseLaw

/-- An event that leaves the latch, the timebase record and K alone. -/
theorem Steady.of_fields (hm : t.latchMid = s.latchMid) (hh : t.latchHigh = s.latchHigh) (ht : t.timebase = s.timebase)
    (hk : t.k = s.k) : Steady t s := ⟨hm, hh, fun h => h.congr ht hk⟩

theorem Steady.refl (s : State) : Steady s s := .of_fields rfl rfl rfl rfl

theorem Steady.trans {a b c : State} (h : Steady a b) (h' : Steady b c) : Steady a c :=
  ⟨h.latchMid.trans h'.latchMid, h.latchHigh.trans h'.latchHigh, fun hc => h.timebase (h'.timebase hc)⟩

theorem finishTick_steady (s : State) : Steady (finishTick s) s := .of_fields (by simp) (by simp) (by simp) (by simp)

theorem event_steady {f : State → State} (h : Steady (f s) s) : Steady (event f s) s := by
  unfold event
  split
  · exact .refl s
  · exact h

theorem access_steady {f : State → State} (h : ∀ a, Steady (f a) a) : Steady (access f s) s :=
  event_steady ((h _).trans (finishTick_steady s))

/-- The parameters of SET_TIMEBASE are in their ranges when they are taken (R11). -/
theorem timebaseOf_ranges {ps : Params} {r : TimebaseRecord} (h : timebaseOf ps = some r) :
    (1 ≤ r.divider.toNat ∧ r.divider.toNat ≤ 4096) ∧ (1 ≤ r.encDepth.toNat ∧ r.encDepth.toNat ≤ 15) ∧ 1 ≤ r.rate.toNat := by
  simp only [timebaseOf, within, Option.bind_eq_bind, Option.bind_eq_some_iff, Option.pure_def, Option.some.injEq,
    Option.ite_none_right_eq_some] at h
  obtain ⟨_, -, _, ⟨hd, rfl⟩, _, ⟨he, rfl⟩, _, -, _, ⟨hr, rfl⟩, rfl⟩ := h
  exact ⟨hd, he, hr.1⟩

theorem doSetTimebase_steady (s : State) : Steady (doSetTimebase s).2 s := by
  unfold doSetTimebase
  split
  · exact .refl s
  · split
    · exact .refl s
    · next r hr =>
      obtain ⟨hd, he, hrate⟩ := timebaseOf_ranges hr
      exact ⟨rfl, rfl, fun ⟨_, _, _, hk⟩ => ⟨hd, he, hrate, hk⟩⟩

/-- START loads K with RATE (R7, R17). -/
theorem doStart_steady (s : State) : Steady (doStart s).2 s := by
  unfold doStart
  split
  · exact .refl s
  · split
    · exact .refl s
    · exact ⟨rfl, rfl, fun ⟨hd, he, hr, _⟩ => ⟨hd, he, hr, hr⟩⟩

/-- From `s` to `t` nothing of chapter 1 that the laws below speak of changes: timebase record, K, P and latch. -/
structure BeltKept (t s : State) : Prop where
  timebase  : t.timebase = s.timebase
  k         : t.k = s.k
  p         : t.p = s.p
  latchMid  : t.latchMid = s.latchMid
  latchHigh : t.latchHigh = s.latchHigh

theorem BeltKept.refl (s : State) : BeltKept s s := ⟨rfl, rfl, rfl, rfl, rfl⟩

theorem BeltKept.steady (h : BeltKept t s) : Steady t s := .of_fields h.latchMid h.latchHigh h.timebase h.k

theorem doVerdict_beltKept (s : State) : BeltKept (doVerdict s).2 s := by
  unfold doVerdict
  split
  · exact .refl s
  · split
    next => exact .refl s
    next =>
      unfold verdictPending
      simp only
      (repeat' split) <;> constructor <;> simp
    all_goals exact .refl s

/-- No command but START, SET_TIMEBASE and SET_POSITION changes the timebase record, K or P, and none the latch. -/
theorem commandBody_beltKept {c : HostCommand} (hs : c ≠ .start) (ht : c ≠ .setTimebase) (hp : c ≠ .setPosition) (s : State) :
    BeltKept (commandBody c s).2 s := by
  cases c with
  | start => exact absurd rfl hs
  | setTimebase => exact absurd rfl ht
  | setPosition => exact absurd rfl hp
  | drain => simp only [commandBody, doDrain]; split <;> constructor <;> simp
  | halt => simp only [commandBody, doHalt]; (repeat' split) <;> constructor <;> simp
  | resume => simp only [commandBody, doResume]; (repeat' split) <;> constructor <;> simp
  | clearLine => simp only [commandBody, doClearLine]; split <;> constructor <;> simp
  | setLane => simp only [commandBody, doSetLane]; split <;> constructor <;> simp
  | setStation => simp only [commandBody, doSetStation]; (repeat' split) <;> constructor <;> simp
  | setProfile => simp only [commandBody, doSetProfile]; split <;> constructor <;> simp
  | setFreeThreshold => simp only [commandBody, doSetFreeThreshold]; split <;> constructor <;> simp
  | readLane => simp only [commandBody, doReadLane]; split <;> constructor <;> simp
  | readStation => simp only [commandBody, doReadStation]; split <;> constructor <;> simp
  | readProfile => simp only [commandBody, doReadProfile]; split <;> constructor <;> simp
  | readItem => simp only [commandBody, doReadItem]; split <;> constructor <;> simp
  | readTimebase => constructor <;> rfl
  | nextDetection => simp only [commandBody, doNextDetection]; (repeat' split) <;> constructor <;> simp
  | nextOutcome => simp only [commandBody, doNextOutcome]; split <;> constructor <;> simp
  | verdict => exact doVerdict_beltKept s
  | pass => simp only [commandBody, doPass]; (repeat' split) <;> constructor <;> simp
  | abort => simp only [commandBody, doAbort]; (repeat' split) <;> constructor <;> simp

theorem commandBody_steady (c : HostCommand) (s : State) : Steady (commandBody c s).2 s := by
  by_cases hs : c = .start
  · subst hs; exact doStart_steady s
  by_cases ht : c = .setTimebase
  · subst ht; exact doSetTimebase_steady s
  by_cases hp : c = .setPosition
  · subst hp
    simp only [commandBody, doSetPosition]
    split <;> exact .of_fields rfl rfl rfl rfl
  · exact (commandBody_beltKept hs ht hp s).steady

theorem runCommand_steady (c : HostCommand) (s : State) : Steady (runCommand c s) s := by
  unfold runCommand
  split
  · exact .refl s
  · have h := (commandBody_steady c (finishTick s)).trans (finishTick_steady s)
    exact ⟨h.latchMid, h.latchHigh, h.timebase⟩

theorem writeCmd_steady (b : Byte) (s : State) : Steady (writeCmd b s) s := by
  unfold writeCmd
  split
  · exact runCommand_steady _ s
  · exact event_steady (.of_fields rfl rfl rfl rfl)

theorem deliver_steady (a : BitVec 6) (b : Byte) (s : State) : Steady (deliver a b s) s := by
  unfold deliver
  simp only
  split
  · exact writeCmd_steady b s
  · split
    · exact .of_fields rfl rfl rfl rfl
    · split
      · exact access_steady fun _ => .of_fields rfl rfl rfl rfl
      · split <;> exact .of_fields rfl rfl rfl rfl

theorem edgeStart_steady (waits : Bool) (s : State) : Steady (edgeStart waits s) s := by
  unfold edgeStart
  split
  · exact .refl s
  · exact finishTick_steady s

theorem takeEncoder_steady (d : EdgeDir) (s : State) : Steady (takeEncoder d s) s := by
  unfold takeEncoder
  simp only
  split
  · apply Steady.of_fields <;> simp
  · exact .of_fields rfl rfl rfl rfl

theorem laneEdge_steady (l : LaneNo) (x : Sense) (s : State) : Steady (laneEdge l x s) s := by
  refine Steady.trans ?_ (edgeStart_steady (s.laneWaits l x) s)
  apply Steady.of_fields <;> simp [laneEdge]

theorem xstopChange_steady (d : EdgeDir) (s : State) : Steady (xstopChange d s) s := by
  refine Steady.trans ?_ (edgeStart_steady (decide (s.xstopEdge = some d)) s)
  apply Steady.of_fields <;> simp [xstopChange]

theorem takeRateExpiry_steady (s : State) : Steady (takeRateExpiry s) s := by
  unfold takeRateExpiry
  split <;> apply Steady.of_fields <;> simp

/-! ### The tick: K counts from 1 up to RATE (R7) -/

theorem foldl_steady {β : Type} {f : State → β → State} (hf : ∀ a b, Steady (f a b) a) (xs : List β) (s : State) :
    Steady (xs.foldl f s) s :=
  List.foldlRecOn xs f (motive := fun a => Steady a s) (.refl s) fun a ha b _ => (hf a b).trans ha

theorem forStations_steady {f : StationNo → State → State} (hf : ∀ n a, Steady (f n a) a) (s : State) :
    Steady (forStations f s) s := foldl_steady (fun a n => hf n a) allStations s

theorem forLanes_steady {f : LaneNo → State → State} (hf : ∀ l a, Steady (f l a) a) (s : State) :
    Steady (forLanes f s) s := foldl_steady (fun a l => hf l a) allLanes s

theorem settleAll_steady (s : State) : Steady (settleAll s) s := by
  have h₁ : Steady (settleReached (takeDueAdvance (settleDue s))) s := by apply Steady.of_fields <;> simp
  have h₂ := forStations_steady (f := takeLateTick) (fun n a => by apply Steady.of_fields <;> simp)
    (settleReached (takeDueAdvance (settleDue s)))
  refine Steady.trans ?_ (h₂.trans h₁)
  apply Steady.of_fields <;> simp [settleAll]

/-- K is loaded with RATE where it would become 0, so it stays 1 or more (R7). -/
theorem countRate_steady (s : State) : Steady (countRate s) s := by
  unfold countRate
  split
  · split
    · exact ⟨rfl, rfl, fun ⟨hd, he, hr, _⟩ => ⟨hd, he, hr, hr⟩⟩
    · next hk =>
      refine ⟨rfl, rfl, fun ⟨hd, he, hr, _⟩ => ⟨hd, he, hr, Nat.one_le_iff_ne_zero.2 fun h0 => hk ?_⟩⟩
      exact BitVec.eq_of_toNat_eq h0
  · exact .refl s

theorem sampleLanes_steady (sns : Vector Level 4) (s : State) : Steady (sampleLanes sns s) s := by
  refine forLanes_steady (fun l a => ?_) s
  exact .of_fields rfl rfl rfl rfl

theorem tickEngines_steady (late : BitVec 8) (s : State) : Steady (tickEngines late s) s := by
  refine forStations_steady (fun n a => ?_) s
  simp only
  split
  · exact .of_fields rfl rfl rfl rfl
  · apply Steady.of_fields <;> simp

theorem tickNow_steady (pins : PinSamples) (late : BitVec 8) (s : State) : Steady (tickNow pins late s) s := by
  have hsample : Steady (sampleXstop pins.xstop (sampleEncoder pins.enc { s with divCount := s.timebase.divider })) s :=
    .of_fields rfl rfl rfl rfl
  exact (tickEngines_steady late _).trans ((countRate_steady _).trans ((sampleLanes_steady pins.sns _).trans hsample))

/-- Every row but POS0_READ, RESET and RESET_RELEASE keeps the latch and the timebase law. -/
theorem exec_steady {c : Instr} (he : exec c s = .next t) (hp : c ≠ .pos0Read) (hr : ∀ n, c ≠ .reset n)
    (hl : c ≠ .resetRelease) : Steady t s := by
  cases c <;> obtain rfl := Host.Outcome.next.inj he
  case pos0Read => exact absurd rfl hp
  case reset n => exact absurd rfl (hr n)
  case resetRelease => exact absurd rfl hl
  case badCommand b => exact writeCmd_steady b s
  case paramWrite => exact event_steady (.of_fields rfl rfl rfl rfl)
  case irqEnableWrite => exact event_steady (.of_fields rfl rfl rfl rfl)
  case irqFlagsWrite b => exact access_steady fun _ => .of_fields rfl rfl rfl rfl
  case registerWrite a b y =>
    refine event_steady ?_
    split
    · exact deliver_steady a b s
    · exact .refl s
  case tick pins late => exact event_steady ((tickNow_steady pins late _).trans (settleAll_steady s))
  case encoderEdge d =>
    refine event_steady ((takeEncoder_steady d _).trans (Steady.trans ?_ (edgeStart_steady (s.encoderWaits d) s)))
    exact .of_fields rfl rfl rfl rfl
  case rateCountdownExpiry => exact event_steady (takeRateExpiry_steady s)
  case xstopActive => exact event_steady (xstopChange_steady .falling s)
  case xstopInactive => exact event_steady (xstopChange_steady .rising s)
  case leadEdge l => exact event_steady (laneEdge_steady l .lead s)
  case trailingEdge l => exact event_steady (laneEdge_steady l .trailing s)
  case jam l => exact event_steady (by apply Steady.of_fields <;> simp)
  case deadline u => exact event_steady (by apply Steady.of_fields <;> simp)
  case arrival n => exact event_steady (by apply Steady.of_fields <;> simp)
  case offPositionReached n => exact event_steady (by apply Steady.of_fields <;> simp)
  case timePulseEnd n => exact event_steady (by apply Steady.of_fields <;> simp)
  case maxOnCut n => exact event_steady (by apply Steady.of_fields <;> simp)
  case recoveryEnd n => exact event_steady (by apply Steady.of_fields <;> simp)
  case guardMarkReached n => exact event_steady (by apply Steady.of_fields <;> simp)
  case drainCompletion => exact event_steady (by apply Steady.of_fields <;> simp)
  case backlogPromotion => exact event_steady (by apply Steady.of_fields <;> simp)
  all_goals exact runCommand_steady _ s

theorem exec_keeps_timebaseLaw (h : s.timebaseLaw) (c : Instr) (he : exec c s = .next t) : t.timebaseLaw := by
  by_cases hp : c = .pos0Read
  · subst hp
    obtain rfl := Host.Outcome.next.inj he
    have hread : ∀ a : State, a.timebaseLaw → (readPos0 a).timebaseLaw := fun a ha => ha.congr rfl rfl
    unfold access event
    split
    · exact h
    · exact hread _ ((finishTick_steady s).timebase h)
  by_cases hl : c = .resetRelease
  · subst hl
    obtain rfl := Host.Outcome.next.inj he
    split
    · exact sound_reset.timebase
    · exact h
  by_cases hr : ∃ n, c = .reset n
  · obtain ⟨n, rfl⟩ := hr
    obtain rfl := Host.Outcome.next.inj he
    split
    · exact sound_reset.timebase
    · exact h
  exact (exec_steady he hp (fun n e => hr ⟨n, e⟩) hl).timebase h

theorem step_keeps_timebaseLaw (h : s.timebaseLaw) (hs : step s = .next t) : t.timebaseLaw := by
  unfold step at hs
  split at hs
  · obtain rfl := Host.Outcome.next.inj hs
    rw [idleClock_eq]
    exact h
  · next c rest _ =>
    have h' : ({ s with pending := rest } : State).timebaseLaw := h.congr rfl rfl
    exact exec_keeps_timebaseLaw h' c hs

end

/-- Settles O59: the coupled laws are kept by every row, and the timebase law with K beside them. -/
theorem stepKeepsLanesRecordsAndRest : Obligations.StepKeepsLanesRecordsAndRest := by
  intro s t hs ht
  have h := hs.coupled.step_keeps ht
  exact ⟨h.lanes, h.records, h.rest, step_keeps_timebaseLaw hs.timebase ht⟩

end Sys2Proof.Machine
end

section
/-! The clock and the filters, and the commands of the timebase, the position and their replies. -/

namespace Sys2Proof.Machine

/-! ### CLKIN and the level filter -/

/-- Settles O2. -/
theorem emptyQueueCountsOneClkin : Obligations.EmptyQueueCountsOneClkin := by
  intro s hs
  simp only [step, hs, idleClock_eq]

/-- A sample that differs counts while the depth is not reached (R2). -/
theorem filterSample_counting {f : Filter} {n : Nat} {x : Level} (hx : x ≠ f.q) (hc : f.c + 1 < n) :
    filterSample f n x = (⟨f.q, f.c + 1⟩, none) := by simp [filterSample, hx, hc]

/-- A sample that differs and reaches the depth changes the level with an edge (R2). -/
theorem filterSample_changing {f : Filter} {n : Nat} {x : Level} (hx : x ≠ f.q) (hc : f.c + 1 = n) :
    filterSample f n x = (⟨x, 0⟩, some (edgeTo x)) := by simp [filterSample, hx, hc]

/-- Settles O21. -/
theorem filterFollowsItsTable : Obligations.FilterFollowsItsTable := by
  refine ⟨fun f n x => ⟨fun hx => hx ▸ filterSample_same f n, filterSample_counting, fun hq hx hc => ?_, fun hq hx hc => ?_,
    rfl⟩, rfl, rfl, by decide⟩
  · subst hx; exact filterSample_changing (by simp [hq]) hc
  · subst hx; exact filterSample_changing (by simp [hq]) hc

/-! ### What a command's row answers -/

/-- The row of a command, not held in reset: CMD and RESULT over what the command leaves (R152, log 1). -/
theorem exec_command {i : Instr} {c : HostCommand} {s₀ s a : State} {code : ResultCode} (hi : exec i s₀ = .next (runCommand c s₀))
    (hreset : s₀.inReset = false) (hs : s = finishTick s₀) (hb : commandBody c s = (code, a)) :
    exec i s₀ = .next { a with cmd := c.code, result := code } := by
  rw [hi, runCommand_taken hreset, ← hs, hb]

/-! ### SET_TIMEBASE (R11) -/

theorem selection_eq {α : Type} (zero one : α) {b : Byte} (h : b.toNat ≤ 1) :
    selection zero one b = some (if b = 0 then zero else one) := by
  unfold selection
  by_cases h0 : b = 0
  · simp [h0]
  · have h1 : b = 1 := by bv_omega
    simp [h1]

theorem selection_none {α : Type} (zero one : α) {b : Byte} (h : 1 < b.toNat) : selection zero one b = none := by
  have h0 : b ≠ 0 := by bv_omega
  have h1 : b ≠ 1 := by bv_omega
  rw [selection, if_neg h0, if_neg h1]

theorem within_eq {w lo hi : Nat} {b : BitVec w} (h : lo ≤ b.toNat) (h' : b.toNat ≤ hi) : within lo hi b = some b := by
  simp [within, h, h']

theorem within_none {w lo hi : Nat} {b : BitVec w} (h : b.toNat < lo ∨ hi < b.toNat) : within lo hi b = none := by
  unfold within
  rw [if_neg]
  omega

/-- Every parameter in its range: the record of the five fields (R11). -/
theorem timebaseOf_eq {ps : Params} (h₀ : ps[0].toNat ≤ 1) (h₁ : 1 ≤ (halfOf ps[1] ps[2]).toNat)
    (h₁' : (halfOf ps[1] ps[2]).toNat ≤ 4096) (h₃ : 1 ≤ ps[3].toNat) (h₃' : ps[3].toNat ≤ 15) (h₄ : ps[4].toNat ≤ 1)
    (h₅ : 1 ≤ (halfOf ps[5] ps[6]).toNat) :
    timebaseOf ps = some
      { source := if ps[0] = 0 then .encoder else .internal, divider := halfOf ps[1] ps[2], encDepth := ps[3],
        encEdge := if ps[4] = 0 then .rising else .falling, rate := halfOf ps[5] ps[6] } := by
  have h₅' : (halfOf ps[5] ps[6]).toNat ≤ 65535 := by omega
  simp [timebaseOf, selection_eq _ _ h₀, selection_eq _ _ h₄, within_eq h₁ h₁', within_eq h₃ h₃', within_eq h₅ h₅']

/-- A parameter out of its range: none (R11). -/
theorem timebaseOf_none {ps : Params}
    (h : 1 < ps[0].toNat ∨ (halfOf ps[1] ps[2]).toNat < 1 ∨ 4096 < (halfOf ps[1] ps[2]).toNat ∨ ps[3].toNat < 1 ∨
      15 < ps[3].toNat ∨ 1 < ps[4].toNat ∨ (halfOf ps[5] ps[6]).toNat < 1) : timebaseOf ps = none := by
  obtain h | h | h | h | h | h | h := h
  · simp [timebaseOf, selection_none _ _ h]
  · simp [timebaseOf, within_none (hi := 4096) (.inl h)]
  · simp [timebaseOf, within_none (lo := 1) (.inr h)]
  · simp [timebaseOf, within_none (hi := 15) (.inl h)]
  · simp [timebaseOf, within_none (lo := 1) (.inr h)]
  · simp [timebaseOf, selection_none _ _ h]
  · simp [timebaseOf, within_none (hi := 65535) (.inl h)]

theorem doSetTimebase_refused {s : State} (h : s.run ≠ .idle) : doSetTimebase s = (.state, s) := by
  simp [doSetTimebase, h, refuse]

theorem doSetTimebase_taken {s : State} {r : TimebaseRecord} (h : s.run = .idle) (hr : timebaseOf s.params = some r) :
    doSetTimebase s = (.ok, { s with timebase := r, encFilter := filterNewDepth s.encFilter }) := by
  simp [doSetTimebase, h, hr]

theorem doSetTimebase_outOfRange {s : State} (h : s.run = .idle) (hr : timebaseOf s.params = none) :
    doSetTimebase s = (.param, s) := by
  simp [doSetTimebase, h, hr, refuse]

/-- Settles O25. -/
theorem setTimebaseReplacesTheRecord : Obligations.SetTimebaseReplacesTheRecord := fun _ _ hreset hs =>
  ⟨fun hrun => exec_command (i := .setTimebase) (c := .setTimebase) rfl hreset hs (doSetTimebase_refused hrun),
   fun hrun h₀ h₁ h₁' h₃ h₃' h₄ h₅ => exec_command (i := .setTimebase) (c := .setTimebase) rfl hreset hs
     (doSetTimebase_taken hrun (timebaseOf_eq h₀ h₁ h₁' h₃ h₃' h₄ h₅)),
   fun hrun hp => exec_command (i := .setTimebase) (c := .setTimebase) rfl hreset hs
     (doSetTimebase_outOfRange hrun (timebaseOf_none hp))⟩

/-! ### SET_POSITION (R14) -/

theorem doSetPosition_taken {s : State} (h : s.run = .idle) :
    doSetPosition s = (.ok, { s with
      p := positionOf s.params, stations := s.stations.map (fun x => { x with guardMark := none }) }) := by
  simp [doSetPosition, h]

theorem doSetPosition_refused {s : State} (h : s.run ≠ .idle) : doSetPosition s = (.state, s) := by
  simp [doSetPosition, h, refuse]

/-- Settles O27. -/
theorem setPositionLoadsTheCounter : Obligations.SetPositionLoadsTheCounter := fun _ _ hreset hs =>
  ⟨fun hrun => exec_command (i := .setPosition) (c := .setPosition) rfl hreset hs (doSetPosition_taken hrun),
   fun hrun => exec_command (i := .setPosition) (c := .setPosition) rfl hreset hs (doSetPosition_refused hrun)⟩

/-! ### READ_TIMEBASE and READ_PROFILE (R13, R104) -/

theorem timebaseReply_eq (x : TimebaseRecord) :
    timebaseReply x = #v[if x.source = .encoder then 0 else 1, x.divider.extractLsb' 0 8, x.divider.extractLsb' 8 8,
      x.encDepth, if x.encEdge = .rising then 0 else 1, x.rate.extractLsb' 0 8, x.rate.extractLsb' 8 8,
      0, 0, 0, 0, 0, 0, 0, 0, 0] := by
  have hs : x.source.code = if x.source = .encoder then 0 else 1 := by cases x.source <;> rfl
  have he : edgeDirCode x.encEdge = if x.encEdge = .rising then 0 else 1 := by cases x.encEdge <;> rfl
  rw [← hs, ← he]
  rfl

theorem profileReply_eq (n : ProfileNo) (x : Profile) :
    profileReply n x = #v[if x.widthKind = .time then 0 else 1, x.leadShift.extractLsb' 0 8, x.leadShift.extractLsb' 8 8,
      x.timeWidth.extractLsb' 0 8, x.timeWidth.extractLsb' 8 8, x.spanExtra.extractLsb' 0 8, x.spanExtra.extractLsb' 8 8,
      packed n.val, 0, 0, 0, 0, 0, 0, 0, 0] := by
  have hw : x.widthKind.code = if x.widthKind = .time then 0 else 1 := by cases x.widthKind <;> rfl
  rw [← hw]
  rfl

theorem indexOf_eq {n : Nat} {b : Byte} {k : Fin n} (h : b.toNat = k.val) : indexOf n b = some k := by
  simp [indexOf, h]

theorem indexOf_none {n : Nat} {b : Byte} (h : n ≤ b.toNat) : indexOf n b = none := by
  simp [indexOf, h]

theorem doReadProfile_taken {s : State} {n : ProfileNo} (h : s.params[0].toNat = n.val) :
    doReadProfile s = (.ok, { s with reply := profileReply n (s.profile n) }) := by
  simp [doReadProfile, indexOf_eq h]

theorem doReadProfile_outOfRange {s : State} (h : 8 ≤ s.params[0].toNat) : doReadProfile s = (.param, s) := by
  simp [doReadProfile, indexOf_none h, refuse]

/-- Settles O26. -/
theorem timebaseAndProfileAreReadBack : Obligations.TimebaseAndProfileAreReadBack := by
  intro s₀ s hreset hs
  refine ⟨?_, fun n hn => ?_, fun hn => ?_⟩
  · rw [← timebaseReply_eq]
    exact exec_command (i := .readTimebase) (c := .readTimebase) rfl hreset hs rfl
  · have hb : s.params[0] = packed n.val := BitVec.eq_of_toNat_eq (by simp [packed, hn]; omega)
    rw [hb, ← profileReply_eq]
    exact exec_command (i := .readProfile) (c := .readProfile) rfl hreset hs (doReadProfile_taken hn)
  · exact exec_command (i := .readProfile) (c := .readProfile) rfl hreset hs (doReadProfile_outOfRange hn)

/-! ### POS0_READ (R15) -/

theorem registerWrite_ignored {a : BitVec 6} (b : Byte) (y : BusCycle) (s : State) (ha : a = 0x11 ∨ a = 0x12 ∨ a = 0x13) :
    exec (.registerWrite a b y) s = .next s := by
  have hd : deliver a b s = s := by obtain rfl | rfl | rfl := ha <;> rfl
  have he : event (fun s => if cycleTaken y then deliver a b s else s) s = s := by simp [event, hd]
  exact congrArg _ he

/-- Settles O9. -/
theorem pos0ReadLatchesThePosition : Obligations.Pos0ReadLatchesThePosition := by
  refine ⟨fun s₀ s hreset hs => ⟨?_, rfl, rfl, rfl, fun a b y => registerWrite_ignored b y s⟩,
    fun c s t he hp hr hl => ?_, rfl, rfl⟩
  · exact congrArg _ ((access_taken hreset).trans (congrArg readPos0 hs.symm))
  · have h := exec_steady he hp hr hl
    exact ⟨h.latchMid, h.latchHigh⟩

end Sys2Proof.Machine
end

section
/-! The advance: what settles keeps the run state and a waiting advance or ends in IDLE, P moves by one at most, and every edge
that a tick has made is taken. -/

namespace Sys2Proof.Machine

/-! ### What the lanes and XSTOP keep: one walk for every relation -/

/-- A relation that the edges of a tick keep too: writes of lanes that leave a waiting edge, of the table and its flags, and
a halt entry. -/
structure Flushing (R : State → State → Prop) : Prop extends Settling R where
  setLane   : ∀ (s : State) l x, x.edge = (s.lane l).edge → R (s.setLane l x) s
  table     : ∀ (s : State) items announce tc freeLow laneAlert, R { s with items, announce, tc, freeLow, laneAlert } s
  haltEntry : ∀ cause s, R (haltEntry cause s) s
  xstopEdge : ∀ (s : State) d, R { s with xstopEdge := d } s

@[simp] theorem Lane.return_edge (x : Lane) : x.return.edge = x.edge := by
  unfold Lane.return
  simp only
  split
  · rfl
  · split <;> rfl

section
variable {R : State → State → Prop}

theorem Flushing.takeLead (h : Flushing R) (l : LaneNo) (s : State) : R (takeLead l s) s := by
  unfold Machine.takeLead
  simp only
  split
  · split
    · exact h.trans (h.setLane (allocate l s) l _ rfl) (h.table s _ s.announce _ _ s.laneAlert)
    · exact h.trans (h.table _ s.items s.announce s.tc s.freeLow true) (h.setLane s l _ rfl)
  · exact h.refl s

theorem Flushing.endMeasurement (h : Flushing R) (l : LaneNo) (t : Byte) (s : State) : R (endMeasurement l t s) s := by
  have hback : ∀ a : State, R (a.setLane l (a.lane l).return) a := fun a => h.setLane a l _ (by simp)
  unfold Machine.endMeasurement
  simp only
  split
  · exact hback s
  · split
    · exact hback s
    · split
      · exact h.trans (h.drainCheck _) (h.trans (hback _) (h.table s _ s.announce s.tc s.freeLow s.laneAlert))
      · exact h.trans (hback _) (h.table s _ _ s.tc s.freeLow s.laneAlert)

theorem Flushing.takeTrailing (h : Flushing R) (l : LaneNo) (s : State) : R (takeTrailing l s) s := by
  refine h.trans (b := Machine.takeJam l s) ?_ (h.takeJam l s)
  unfold Machine.takeTrailing Machine.takeTrailingNow
  simp only
  split
  · exact h.refl _
  · exact h.refl _
  · exact h.setLane _ l _ rfl
  · exact h.setLane _ l _ (by simp)
  · exact h.setLane _ l _ (by simp)
  · split
    · exact h.endMeasurement l _ _
    · exact h.setLane _ l _ (by simp)

theorem Flushing.takeSense (h : Flushing R) (l : LaneNo) (x : Sense) (s : State) : R (takeSense l x s) s := by
  cases x with
  | lead => exact h.takeLead l s
  | trailing => exact h.takeTrailing l s

theorem Flushing.takeXstop (h : Flushing R) (d : EdgeDir) (s : State) : R (takeXstop d s) s := by
  cases d with
  | rising => exact h.refl s
  | falling =>
    simp only [Machine.takeXstop]
    split
    · split
      · exact h.trans (h.haltEntry .xstop _) (h.settleDue s)
      · exact h.settleDue s
    · exact h.refl s

theorem Flushing.flushXstop (h : Flushing R) (s : State) : R (flushXstop s) s := by
  unfold Machine.flushXstop
  split
  · exact h.refl s
  · exact h.trans (h.takeXstop _ _) (h.xstopEdge s none)

end

section
variable {s s' t : State}

/-! ### The run state and the waiting advance -/

/-- An event that leaves the run state and the waiting advance, or ends the line: IDLE or HALT, and no advance waits (R6, R19,
R22). -/
def Settles (t s : State) : Prop :=
  (t.run = s.run ∧ t.advanceDue = s.advanceDue) ∨ (t.running = false ∧ t.advanceDue = false)

theorem Settles.of_fields (hr : t.run = s.run) (ha : t.advanceDue = s.advanceDue) : Settles t s := .inl ⟨hr, ha⟩

theorem Settles.trans {a b c : State} (h : Settles a b) (h' : Settles b c) : Settles a c := by
  obtain ⟨hr, ha⟩ | h := h
  · obtain ⟨hr', ha'⟩ | ⟨hr', ha'⟩ := h'
    · exact .inl ⟨hr.trans hr', ha.trans ha'⟩
    · exact .inr ⟨by simpa [State.running, hr] using hr', ha.trans ha'⟩
  · exact .inr h

theorem settles_flushing : Flushing Settles where
  refl _ := .of_fields rfl rfl
  trans := Settles.trans
  setStation _ _ _ := .of_fields rfl rfl
  modifyRecord _ _ _ := .of_fields rfl rfl
  dropAnnounce _ _ := .of_fields rfl rfl
  retire _ _ _ := .of_fields (by simp) (by simp)
  drainCheck s := by
    unfold drainCheck
    split
    · exact .inr ⟨rfl, rfl⟩
    · exact .of_fields rfl rfl
  jammed _ _ := .of_fields rfl rfl
  setLane _ _ _ _ := .of_fields rfl rfl
  table _ _ _ _ _ _ := .of_fields rfl rfl
  haltEntry _ _ := .inr ⟨by simp [State.running], by simp⟩
  xstopEdge _ _ := .of_fields rfl rfl

/-- The line runs after it only where it ran before, and the advance then waits as before. -/
theorem Settles.running (h : Settles t s) (hr : t.running = true) : s.running = true ∧ t.advanceDue = s.advanceDue := by
  obtain ⟨hrun, ha⟩ | ⟨hrun, -⟩ := h
  · exact ⟨by simpa [State.running, hrun] using hr, ha⟩
  · simp [hrun] at hr

/-- No advance comes up. -/
theorem Settles.advanceDue (h : Settles t s) (ha : s.advanceDue = false) : t.advanceDue = false := by
  obtain ⟨-, h⟩ | ⟨-, h⟩ := h
  · exact h.trans ha
  · exact h

theorem flushLane_settles (l : LaneNo) (s : State) : Settles (flushLane l s) s := by
  unfold flushLane
  split
  · exact .of_fields rfl rfl
  · exact (settles_flushing.takeSense l _ _).trans (.of_fields rfl rfl)

/-- The lanes' edges and the XSTOP change, the last part of what a tick has made. -/
theorem flushes_settle (s : State) : Settles (flushXstop (forLanes flushLane s)) s :=
  (settles_flushing.flushXstop _).trans (settles_flushing.forLanes flushLane_settles s)

/-! ### The advance and P (R5, R6, R7) -/

theorem advance_running {a : State} (ha : a = settleReached s) (hr : a.running = true) : advance s = { a with p := a.p + 1 } := by
  unfold advance
  simp only [← ha, hr, if_true]

theorem advance_resting {a : State} (ha : a = settleReached s) (hr : a.running = false) : advance s = a := by
  unfold advance
  simp only [← ha, hr, Bool.false_eq_true, if_false]

theorem advance_settles (s : State) : Settles (advance s) s := by
  have hs := settles_flushing.settleReached s
  have hcount : ∀ a, Settles a s → Settles { a with p := a.p + 1 } s := fun _ ha => ha
  cases hr : (settleReached s).running with
  | true => rw [advance_running rfl hr]; exact hcount _ hs
  | false => rw [advance_resting rfl hr]; exact hs

theorem takeDueAdvance_advanceDue (s : State) : (takeDueAdvance s).advanceDue = false := by
  unfold takeDueAdvance
  split
  · simp only
    split
    · exact (advance_settles _).advanceDue rfl
    · rfl
  · next h => simpa using h

/-- P stays, or moves on by one in RUN or DRAIN. -/
def Moves (t s : State) : Prop := t.p = s.p ∨ (s.running = true ∧ t.p = s.p + 1)

theorem advance_moves (s : State) : Moves (advance s) s := by
  obtain h | ⟨hr, h⟩ := advance_p s
  · exact .inl h
  · exact .inr ⟨((settles_flushing.settleReached s).running hr).1, h⟩

theorem takeDueAdvance_moves (s : State) : Moves (takeDueAdvance s) s := by
  unfold takeDueAdvance
  split
  · simp only
    split
    · exact advance_moves { s with advanceDue := false }
    · exact .inl rfl
  · exact .inl rfl

theorem Moves.of_settles (h : Moves t s') (hs : Settles s' s) (hp : s'.p = s.p) : Moves t s := by
  obtain h | ⟨hr, h⟩ := h
  · exact .inl (h.trans hp)
  · exact .inr ⟨(hs.running hr).1, hp ▸ h⟩

theorem Moves.of_p (h : Moves s' s) (hp : t.p = s'.p) : Moves t s := by
  obtain h | ⟨hr, h⟩ := h
  · exact .inl (hp.trans h)
  · exact .inr ⟨hr, hp.trans h⟩

theorem finishTick_p (s : State) : (finishTick s).p = (takeDueAdvance (settleEngines s)).p := by simp [finishTick]

theorem finishTick_moves (s : State) : Moves (finishTick s) s :=
  ((takeDueAdvance_moves (settleEngines s)).of_p (finishTick_p s)).of_settles (settles_flushing.settleEngines s) (by simp)

theorem settleAll_p (s : State) : (settleAll s).p = (takeDueAdvance (settleDue s)).p := by
  have h : ∀ a, (forStations takeLateTick a).p = a.p := fun a => foldl_keeps State.p _ (fun b n => takeLateTick_p n b) _ a
  simp [settleAll, h]

theorem settleAll_moves (s : State) : Moves (settleAll s) s :=
  ((takeDueAdvance_moves (settleDue s)).of_p (settleAll_p s)).of_settles (settles_flushing.settleDue s) (by simp)

theorem sampleLanes_p (sns : Vector Level 4) (s : State) : (sampleLanes sns s).p = s.p := by
  unfold sampleLanes forLanes
  exact foldl_keeps State.p _ (fun _ _ => rfl) allLanes s

theorem countRate_p (s : State) : (countRate s).p = s.p := by
  unfold countRate
  split
  · split <;> rfl
  · rfl

theorem tickNow_p (pins : PinSamples) (late : BitVec 8) (s : State) : (tickNow pins late s).p = s.p := by
  unfold tickNow tickEngines forStations
  rw [foldl_keeps State.p _ _ allStations, countRate_p, sampleLanes_p]
  · rfl
  · intro a n
    simp only
    split <;> simp

end
end Sys2Proof.Machine
end

section
/-! P over every row (R5, R14). -/

namespace Sys2Proof.Machine

section
variable {s t : State}

/-! ### P over the rows -/

theorem Moves.refl (s : State) : Moves s s := .inl rfl

theorem event_moves {f : State → State} (h : Moves (f s) s) : Moves (event f s) s := by
  unfold event
  split
  · exact .refl s
  · exact h

/-- An event that leaves P. -/
theorem event_moves_of_p {f : State → State} (h : (f s).p = s.p) : Moves (event f s) s := event_moves (.inl h)

theorem access_moves {f : State → State} (h : ∀ a, (f a).p = a.p) : Moves (access f s) s :=
  event_moves ((finishTick_moves s).of_p (h _))

theorem commandBody_p {c : HostCommand} (hc : c ≠ .setPosition) (s : State) : (commandBody c s).2.p = s.p := by
  by_cases hs : c = .start
  · subst hs
    simp only [commandBody, doStart]
    (repeat' split) <;> rfl
  by_cases ht : c = .setTimebase
  · subst ht
    simp only [commandBody, doSetTimebase]
    (repeat' split) <;> rfl
  · exact (commandBody_beltKept hs ht hc s).p

/-- P is loaded by a SET_POSITION that is taken in IDLE (R14). -/
def Loads (t s : State) : Prop :=
  (finishTick s).run = .idle ∧ t.p = posOf s.params[0] s.params[1] s.params[2]

theorem setPosition_p (s : State) :
    (commandBody .setPosition s).2.p = s.p ∨
      (s.run = .idle ∧ (commandBody .setPosition s).2.p = positionOf s.params) := by
  change (doSetPosition s).2.p = s.p ∨ (s.run = .idle ∧ (doSetPosition s).2.p = positionOf s.params)
  by_cases h : s.run = .idle
  · exact .inr ⟨h, by rw [doSetPosition_taken h]⟩
  · exact .inl (by rw [doSetPosition_refused h])

theorem runCommand_p {c : HostCommand} (h : s.inReset = false) : (runCommand c s).p = (commandBody c (finishTick s)).2.p := by
  simp [runCommand, h]

theorem runCommand_moves (c : HostCommand) (s : State) :
    Moves (runCommand c s) s ∨ (c = .setPosition ∧ Loads (runCommand c s) s) := by
  cases hr : s.inReset with
  | true => exact .inl (.inl (by rw [runCommand_held hr]))
  | false =>
    have hp := runCommand_p (c := c) hr
    by_cases hc : c = .setPosition
    · subst hc
      obtain h | ⟨hi, h⟩ := setPosition_p (finishTick s)
      · exact .inl ((finishTick_moves s).of_p (hp.trans h))
      · exact .inr ⟨rfl, hi, hp.trans (by simpa [positionOf] using h)⟩
    · exact .inl ((finishTick_moves s).of_p (hp.trans (commandBody_p hc _)))

theorem runCommand_moves_of_ne {c : HostCommand} (hc : c ≠ .setPosition) (s : State) : Moves (runCommand c s) s :=
  (runCommand_moves c s).resolve_right fun h => hc h.1

theorem ofCode_eq_some {b : Byte} {c : HostCommand} (h : HostCommand.ofCode b = some c) : b = c.code := by
  unfold HostCommand.ofCode at h
  have hb := List.find?_some h
  exact (eq_of_beq hb).symm

theorem writeCmd_moves (b : Byte) (s : State) : Moves (writeCmd b s) s ∨ (b = 0x11 ∧ Loads (writeCmd b s) s) := by
  unfold writeCmd
  split
  · next c hc =>
    obtain h | ⟨rfl, h⟩ := runCommand_moves c s
    · exact .inl h
    · exact .inr ⟨ofCode_eq_some hc, h⟩
  · exact .inl (event_moves_of_p rfl)

theorem deliver_moves (a : BitVec 6) (b : Byte) (s : State) :
    Moves (deliver a b s) s ∨ (a = 0x00 ∧ b = 0x11 ∧ Loads (deliver a b s) s) := by
  unfold deliver
  simp only
  split
  · next ha =>
    obtain h | ⟨hb, h⟩ := writeCmd_moves b s
    · exact .inl h
    · exact .inr ⟨BitVec.eq_of_toNat_eq ha, hb, h⟩
  · refine .inl ?_
    split
    · exact .inl rfl
    · split
      · exact access_moves fun _ => rfl
      · split <;> exact .inl rfl

theorem registerWrite_moves (a : BitVec 6) (b : Byte) (y : BusCycle) (s : State) :
    Moves (event (fun s => if cycleTaken y then deliver a b s else s) s) s ∨
      (a = 0x00 ∧ b = 0x11 ∧ Loads (event (fun s => if cycleTaken y then deliver a b s else s) s) s) := by
  unfold event
  split
  · exact .inl (.refl s)
  · split
    · exact deliver_moves a b s
    · exact .inl (.refl s)

/-! ### Edges and the tick -/

theorem finishTick_of_none (h : s.advanceDue = false) : Settles (finishTick s) s ∧ (finishTick s).p = s.p := by
  have hn := (settles_flushing.settleEngines s).advanceDue h
  constructor
  · refine (flushes_settle _).trans ?_
    rw [takeDueAdvance_none hn]
    exact settles_flushing.settleEngines s
  · rw [finishTick_p, takeDueAdvance_none hn, settleEngines_p]

theorem takeEncoder_moves (d : EdgeDir) (s : State) : Moves (takeEncoder d s) s := by
  unfold takeEncoder
  simp only
  split
  · exact advance_moves { s with encFilter := filterAt s.encFilter (edgeLevel d) }
  · exact .inl rfl

/-- An edge of another source or another direction is discarded. -/
theorem takeEncoder_p {d : EdgeDir} (h : ¬(s.timebase.source = .encoder ∧ d = s.timebase.encEdge)) :
    (takeEncoder d s).p = s.p := by
  unfold takeEncoder
  simp only
  rw [if_neg fun hc => h ⟨hc.1, hc.2.1⟩]

/-- A waiting advance that is dropped is no part of what moves P. -/
theorem Moves.of_dropAdvance (h : Moves t { s with advanceDue := false }) : Moves t s := h

theorem takeEncoder_dropAdvance_p {d : EdgeDir} (h : ¬(s.timebase.source = .encoder ∧ d = s.timebase.encEdge)) :
    (takeEncoder d { s with advanceDue := false }).p = s.p := takeEncoder_p (s := { s with advanceDue := false }) h

/-- An edge moves P by one at most: the advance that the last tick has made and waits, or, where none waits for this edge,
either that of the last tick or that of the edge. -/
theorem encoderEdge_moves (d : EdgeDir) (s : State) :
    Moves (takeEncoder d { edgeStart (s.encoderWaits d) s with advanceDue := false }) s := by
  by_cases hw : s.encoderWaits d = true
  · rw [hw, edgeStart_waits]
    exact takeEncoder_moves d { s with advanceDue := false }
  · rw [Bool.not_eq_true] at hw
    rw [hw, edgeStart_later]
    by_cases hsrc : s.timebase.source = .encoder ∧ d = s.timebase.encEdge
    · have hn : s.advanceDue = false := by simpa [State.encoderWaits, hsrc.1, ← hsrc.2] using hw
      obtain ⟨hset, hp⟩ := finishTick_of_none hn
      exact (Moves.of_dropAdvance (takeEncoder_moves d _)).of_settles hset hp
    · exact (finishTick_moves s).of_p (takeEncoder_dropAdvance_p (by simpa using hsrc))

theorem edgeStart_moves (waits : Bool) (s : State) : Moves (edgeStart waits s) s := by
  unfold edgeStart
  split
  · exact .refl s
  · exact finishTick_moves s

theorem laneEdge_moves (l : LaneNo) (x : Sense) (s : State) : Moves (laneEdge l x s) s :=
  (edgeStart_moves (s.laneWaits l x) s).of_p (by simp [laneEdge])

theorem xstopChange_moves (d : EdgeDir) (s : State) : Moves (xstopChange d s) s :=
  (edgeStart_moves (decide (s.xstopEdge = some d)) s).of_p (by simp [xstopChange])

theorem takeRateExpiry_moves (s : State) : Moves (takeRateExpiry s) s := by
  unfold takeRateExpiry
  split
  · exact takeDueAdvance_moves s
  · exact .refl s

/-- Every row but RESET and RESET_RELEASE leaves P, moves it on by one in RUN or DRAIN, or loads it. -/
theorem exec_moves {c : Instr} (he : exec c s = .next t) (hr : ∀ n, c ≠ .reset n) (hl : c ≠ .resetRelease) :
    Moves t s ∨ (Loads t s ∧ (c = .setPosition ∨ c = .badCommand 0x11 ∨ ∃ y, c = .registerWrite 0x00 0x11 y)) := by
  cases c <;> obtain rfl := Host.Outcome.next.inj he
  case reset n => exact absurd rfl (hr n)
  case resetRelease => exact absurd rfl hl
  case setPosition => exact (runCommand_moves .setPosition s).imp_right fun h => ⟨h.2, .inl rfl⟩
  case badCommand b =>
    obtain h | ⟨rfl, h⟩ := writeCmd_moves b s
    · exact .inl h
    · exact .inr ⟨h, .inr (.inl rfl)⟩
  case registerWrite a b y =>
    obtain h | ⟨rfl, rfl, h⟩ := registerWrite_moves a b y s
    · exact .inl h
    · exact .inr ⟨h, .inr (.inr ⟨y, rfl⟩)⟩
  case paramWrite => exact .inl (event_moves_of_p rfl)
  case irqEnableWrite => exact .inl (event_moves_of_p rfl)
  case irqFlagsWrite b => exact .inl (access_moves fun _ => rfl)
  case pos0Read => exact .inl (access_moves fun _ => rfl)
  case tick pins late => exact .inl (event_moves ((settleAll_moves s).of_p (tickNow_p pins late _)))
  case encoderEdge d => exact .inl (event_moves (encoderEdge_moves d s))
  case rateCountdownExpiry => exact .inl (event_moves (takeRateExpiry_moves s))
  case xstopActive => exact .inl (event_moves (xstopChange_moves .falling s))
  case xstopInactive => exact .inl (event_moves (xstopChange_moves .rising s))
  case leadEdge l => exact .inl (event_moves (laneEdge_moves l .lead s))
  case trailingEdge l => exact .inl (event_moves (laneEdge_moves l .trailing s))
  case jam l => exact .inl (event_moves_of_p (takeJam_p l s))
  case deadline u => exact .inl (event_moves_of_p (takeDeadline_p u s))
  case arrival n => exact .inl (event_moves_of_p (takeArrival_p n s))
  case offPositionReached n => exact .inl (event_moves_of_p (takeOffPosition_p n s))
  case timePulseEnd n => exact .inl (event_moves_of_p (by simp))
  case maxOnCut n => exact .inl (event_moves_of_p (by simp))
  case recoveryEnd n => exact .inl (event_moves_of_p (by simp))
  case guardMarkReached n => exact .inl (event_moves_of_p (takeGuardMark_p n s))
  case drainCompletion => exact .inl (event_moves_of_p (drainCheck_p s))
  case backlogPromotion => exact .inl (event_moves_of_p (promote_p s))
  all_goals exact .inl (runCommand_moves_of_ne (by simp) s)

end

/-- Settles O24. -/
theorem positionHoldsAdvancesOrIsLoaded : Obligations.PositionHoldsAdvancesOrIsLoaded := by
  refine ⟨rfl, by decide, fun n s t hn he => ?_, fun c s t he hr hl => ?_⟩
  · obtain rfl := Host.Outcome.next.inj he
    simp [Config.resetSamples, hn, takeReset, resetState, State.reset]
  · obtain (h | ⟨hrun, h⟩) | ⟨⟨hidle, h⟩, hc⟩ := exec_moves he hr hl
    · exact .inl h
    · exact .inr (.inl ⟨State.running_iff.1 hrun, h⟩)
    · exact .inr (.inr ⟨hidle, h, hc⟩)

end Sys2Proof.Machine
end

section
/-! Where advances come from (R6, R7), and that what comes before an access takes every waiting edge (log 1). -/

namespace Sys2Proof.Machine

section
variable {s t : State}

/-! ### The lanes' edges -/

/-- The edges that wait at the lanes stay. -/
def EdgesKept (t s : State) : Prop := ∀ l, (t.lane l).edge = (s.lane l).edge

theorem EdgesKept.of_lanes (h : t.lanes = s.lanes) : EdgesKept t s := fun l => by simp [State.lane, h]

theorem EdgesKept.of_setLane {l : LaneNo} {x : Lane} (h : x.edge = (s.lane l).edge) : EdgesKept (s.setLane l x) s := by
  intro k
  rw [lane_setLane]
  split
  · next e => rw [e, h]
  · rfl

theorem EdgesKept.of_lanesOff (h : ∀ l, t.lane l = (s.lane l).toOff) : EdgesKept t s := fun l => by rw [h l]; rfl

theorem edgesKept_flushing : Flushing EdgesKept where
  refl _ _ := rfl
  trans h h' l := (h l).trans (h' l)
  setStation _ _ _ := .of_lanes rfl
  modifyRecord _ _ _ := .of_lanes rfl
  dropAnnounce _ _ := .of_lanes rfl
  retire _ _ _ := .of_lanes (by simp)
  drainCheck s := by
    unfold drainCheck
    split
    · exact .of_lanesOff (lane_lanesOff s)
    · exact .of_lanes rfl
  jammed s l := EdgesKept.of_setLane (s := s) (l := l) (x := { s.lane l with state := .jammed, measurement := none }) rfl
  setLane _ _ _ h := .of_setLane h
  table _ _ _ _ _ _ := .of_lanes rfl
  haltEntry c s := .of_lanesOff fun l => by simp [State.lane]
  xstopEdge _ _ := .of_lanes rfl

/-- A lane that has taken its edge has none waiting, and the other lanes keep theirs. -/
theorem flushLane_edge (l k : LaneNo) (s : State) :
    ((flushLane l s).lane k).edge = if k = l then none else (s.lane k).edge := by
  unfold flushLane
  split
  · next h =>
    split
    · next e => rw [e, h]
    · rfl
  · rw [edgesKept_flushing.takeSense l _ _ k, lane_setLane]
    split <;> rfl

theorem foldl_flushLane_edge (ls : List LaneNo) (k : LaneNo) (s : State) :
    ((ls.foldl (fun a l => flushLane l a) s).lane k).edge = if k ∈ ls then none else (s.lane k).edge := by
  induction ls generalizing s with
  | nil => simp
  | cons l ls ih =>
    rw [List.foldl_cons, ih, flushLane_edge]
    by_cases hk : k ∈ ls <;> by_cases e : k = l <;> simp [hk, e]

theorem flushXstop_xstopEdge (s : State) : (flushXstop s).xstopEdge = none := by
  unfold flushXstop
  split
  · next h => exact h
  · simp

theorem finishTick_advanceDue (s : State) : (finishTick s).advanceDue = false :=
  (flushes_settle _).advanceDue (takeDueAdvance_advanceDue _)

theorem finishTick_xstopEdge (s : State) : (finishTick s).xstopEdge = none := flushXstop_xstopEdge _

theorem finishTick_edge (s : State) (l : LaneNo) : ((finishTick s).lane l).edge = none := by
  have h := foldl_flushLane_edge allLanes l (takeDueAdvance (settleEngines s))
  rw [if_pos (mem_allLanes l)] at h
  exact (edgesKept_flushing.flushXstop _ l).trans h

/-- Where nothing waits and no engine ends, nothing comes before an access. -/
theorem finishTick_idle (ha : s.advanceDue = false) (hx : s.xstopEdge = none) (hl : ∀ l, (s.lane l).edge = none)
    (he : settleEngines s = s) : finishTick s = s := by
  have hflush : forLanes flushLane s = s :=
    List.foldlRecOn allLanes _ (motive := fun a => a = s) rfl fun a e l _ => by rw [e, flushLane_none (hl l)]
  rw [finishTick, he, takeDueAdvance_none ha, hflush, flushXstop_none hx]

/-! ### The advance before an access -/

/-- The waiting advance moves P on where the line still runs after the positions reached (R5, R6). -/
theorem takeDueAdvance_p {a : State} (hd : s.running = true → s.advanceDue = true)
    (ha : a = settleReached { s with advanceDue := false }) :
    (a.running = true → (takeDueAdvance s).p = s.p + 1) ∧ (a.running = false → (takeDueAdvance s).p = s.p) := by
  have hp : a.p = s.p := by rw [ha, settleReached_p]
  have hset : Settles a { s with advanceDue := false } := by rw [ha]; exact settles_flushing.settleReached _
  constructor
  · intro hr
    have hs : s.running = true := (hset.running hr).1
    rw [takeDueAdvance_due (hd hs) hs, advance_running ha hr, hp]
  · intro hr
    cases hs : s.running with
    | true => rw [takeDueAdvance_due (hd hs) hs, advance_resting ha hr, hp]
    | false => exact (takeDueAdvance_moves s).resolve_right fun h => by simp [hs] at h

theorem finishTick_advances {a : State} (hd : s.advanceDue = true)
    (ha : a = settleReached { settleEngines s with advanceDue := false }) :
    (a.running = true → (finishTick s).p = s.p + 1) ∧ (a.running = false → (finishTick s).p = s.p) := by
  have h := takeDueAdvance_p (fun hr => ((settles_flushing.settleEngines s).running hr).2.trans hd) ha
  rwa [← finishTick_p, settleEngines_p] at h

/-! ### The rows of the two sources -/

/-- The advance of RATE_COUNTDOWN_EXPIRY (R7). -/
theorem exec_rateCountdownExpiry (h : s.inReset = false) : exec .rateCountdownExpiry s = .next (takeRateExpiry s) :=
  congrArg _ (event_taken h)

theorem takeRateExpiry_internal (h : s.timebase.source = .internal) : takeRateExpiry s = takeDueAdvance s := by
  simp [takeRateExpiry, h]

theorem takeRateExpiry_none (h : s.timebase.source = .encoder ∨ s.advanceDue = false) : takeRateExpiry s = s := by
  unfold takeRateExpiry
  split
  · next hs => exact takeDueAdvance_none (h.resolve_left (by simp [hs]))
  · rfl

theorem takeDueAdvance_resting (hd : s.advanceDue = true) (hr : s.running = false) :
    takeDueAdvance s = { s with advanceDue := false } := by simp [takeDueAdvance, hd, hr]

/-- The state that ENCODER_EDGE finds (log 3), and what it makes of it. -/
theorem exec_encoderEdge {s₀ : State} {d : EdgeDir} (h : s₀.inReset = false)
    (hs : s = if s₀.advanceDue = true ∧ s₀.timebase.source = .encoder ∧ d = s₀.timebase.encEdge then s₀ else finishTick s₀) :
    exec (.encoderEdge d) s₀ = .next (takeEncoder d { s with advanceDue := false }) := by
  have hstart : edgeStart (s₀.encoderWaits d) s₀ = s := by
    rw [hs]
    simp [edgeStart, State.encoderWaits, and_assoc]
  exact congrArg _ ((event_taken h).trans (by rw [hstart]))

theorem takeEncoder_taken {d : EdgeDir} (hs : s.timebase.source = .encoder) (hd : d = s.timebase.encEdge)
    (hr : s.running = true) : takeEncoder d s = advance { s with encFilter := filterAt s.encFilter (edgeLevel d) } := by
  simp [takeEncoder, hs, ← hd, hr]

theorem takeEncoder_discarded {d : EdgeDir}
    (h : s.timebase.source = .internal ∨ d ≠ s.timebase.encEdge ∨ s.running = false) :
    takeEncoder d s = { s with encFilter := filterAt s.encFilter (edgeLevel d) } := by
  unfold takeEncoder
  simp only
  rw [if_neg]
  rintro ⟨hs, hd, hr⟩
  obtain h | h | h := h
  · simp [hs] at h
  · exact h hd
  · simp [hr] at h

end

/-- Settles O23. -/
theorem advancesComeFromTheSelectedSource : Obligations.AdvancesComeFromTheSelectedSource := by
  refine ⟨fun s₀ s d f hreset hs hf => ⟨fun a hsrc hd hrun ha => ?_, fun hdis => ?_⟩, fun s hreset => ⟨?_, ?_, ?_, finishTick_advanceDue s,
    finishTick_xstopEdge s, finishTick_edge s, ?_, fun hd => (finishTick_of_none hd).2, finishTick_idle⟩⟩
  · obtain rfl : f = filterAt s.encFilter (edgeLevel d) := hf
    have htake := takeEncoder_taken (s := { s with advanceDue := false }) hsrc hd (State.running_iff.2 hrun)
    rw [exec_encoderEdge hreset hs, htake]
    exact ⟨fun hr => congrArg _ (advance_running ha (State.running_iff.2 hr)),
      fun hr => congrArg _ (advance_resting ha (State.resting_iff.2 hr))⟩
  · obtain rfl : f = filterAt s.encFilter (edgeLevel d) := hf
    rw [exec_encoderEdge hreset hs, takeEncoder_discarded (s := { s with advanceDue := false })]
    exact hdis.imp_right (Or.imp_right State.resting_iff.2)
  · intro a hsrc hd hrun ha
    rw [exec_rateCountdownExpiry hreset, takeRateExpiry_internal hsrc, takeDueAdvance_due hd (State.running_iff.2 hrun)]
    exact ⟨fun hr => congrArg _ (advance_running ha (State.running_iff.2 hr)),
      fun hr => congrArg _ (advance_resting ha (State.resting_iff.2 hr))⟩
  · intro hsrc hd hrun
    rw [exec_rateCountdownExpiry hreset, takeRateExpiry_internal hsrc, takeDueAdvance_resting hd (State.resting_iff.2 hrun)]
  · intro h
    rw [exec_rateCountdownExpiry hreset, takeRateExpiry_none h]
  · intro a hd _ ha
    obtain ⟨hon, hoff⟩ := finishTick_advances hd ha
    exact ⟨fun hr => hon (State.running_iff.2 hr), fun hr => hoff (State.resting_iff.2 hr)⟩

end Sys2Proof.Machine
end

section
/-! The tick (R1): what each of its users does with it. -/

namespace Sys2Proof.Machine

/-! ### The sensor filters (R30) -/

theorem foldl_sample (ls : List LaneNo) (hn : ls.Nodup) (sns : Vector Level 4) (s : State) :
    ∃ lanes : Vector Lane 4,
      ls.foldl (fun a l => a.setLane l ((a.lane l).sample sns[l.val])) s = { s with lanes } ∧
      ∀ k : LaneNo, lanes[k.val] = if k ∈ ls then (s.lane k).sample sns[k.val] else s.lane k := by
  induction ls generalizing s with
  | nil => exact ⟨s.lanes, rfl, fun k => by simp [State.lane]⟩
  | cons l ls ih =>
    obtain ⟨hl, hn⟩ := List.nodup_cons.1 hn
    obtain ⟨lanes, he, hlane⟩ := ih hn (s.setLane l ((s.lane l).sample sns[l.val]))
    refine ⟨lanes, he, fun k => ?_⟩
    rw [hlane, lane_setLane]
    by_cases e : k = l
    · subst e; simp [hl]
    · simp [e]

/-- Every lane samples its pin, and nothing else changes. -/
theorem sampleLanes_spec (sns : Vector Level 4) (s : State) :
    ∃ lanes : Vector Lane 4,
      sampleLanes sns s = { s with lanes } ∧ ∀ k : LaneNo, lanes[k.val] = (s.lane k).sample sns[k.val] := by
  obtain ⟨lanes, he, hlane⟩ := foldl_sample allLanes (by decide) sns s
  exact ⟨lanes, he, fun k => by rw [hlane, if_pos (mem_allLanes k)]⟩

/-! ### K (R7) -/

theorem countRate_spec (s : State) :
    ∃ k advanceDue, countRate s = { s with k, advanceDue } ∧
      (s.timebase.source = .internal → s.running = true → s.k = 1 → k = s.timebase.rate) ∧
      (s.timebase.source = .internal → s.running = true → s.k ≠ 1 → k = s.k - 1) ∧
      (s.timebase.source = .encoder ∨ ¬ s.running = true → k = s.k) ∧
      (advanceDue = true ↔ s.advanceDue = true ∨ (s.timebase.source = .internal ∧ s.running = true ∧ s.k = 1)) := by
  have hk : s.k - 1 = 0 ↔ s.k = 1 := by constructor <;> intro h <;> bv_omega
  unfold countRate
  split
  · next hc =>
    obtain ⟨hi, hr⟩ := hc
    split
    · next h1 => exact ⟨_, _, rfl, by simp [hi, hr, hk.1 h1]⟩
    · next h1 =>
      have h1' : s.k ≠ 1 := fun e => h1 (hk.2 e)
      exact ⟨_, s.advanceDue, rfl, fun _ _ e => absurd e h1', fun _ _ _ => rfl, by simp [hi, hr],
        fun h => .inl h, fun h => h.resolve_right fun hc => h1' hc.2.2⟩
  · next hc => exact ⟨s.k, s.advanceDue, rfl, by grind⟩

/-! ### The engines (R123, R127) -/

/-- A station that takes the tick, or has it still to take (log 4). -/
def tickedStation (late : Bool) (x : Station) : Station :=
  if late then { x with tickLate := true }
  else match x.engine with
    | .on q => { x with engine := .on { q with onTicks := satInc q.onTicks } }
    | .recovery c => { x with engine := .recovery (c - 1) }
    | .disabled => x
    | .offReady => x

/-- A record whose FIRING counts the tick of its engine, when that is one of `ns` and takes the tick now (R123). -/
def tickedRecord (late : StationNo → Bool) (ns : List StationNo) (r : ItemRecord) : ItemRecord :=
  match r.verdict with
  | some v =>
    if r.state = .firing ∧ v.station ∈ ns ∧ late v.station = false then
      { r with firing := r.firing.map fun f => { f with onTicks := satInc f.onTicks } }
    else r
  | none => r

@[simp] theorem tickedRecord_tag (late : StationNo → Bool) (ns : List StationNo) (r : ItemRecord) :
    (tickedRecord late ns r).tag = r.tag := by
  unfold tickedRecord
  split
  · split <;> rfl
  · rfl

/-- One station more makes no difference to a record that is not FIRING there on time. -/
theorem tickedRecord_append {late : StationNo → Bool} {ns : List StationNo} {n : StationNo} {r : ItemRecord}
    (h : r.state = .firing → r.verdict.map Verdict.station = some n → late n = true) :
    tickedRecord late (ns ++ [n]) r = tickedRecord late ns r := by
  unfold tickedRecord
  split
  · next v hv =>
    by_cases e : v.station = n
    · subst e
      by_cases hs : r.state = .firing
      · simp [h hs (by simp [hv])]
      · simp [hs]
    · simp [e]
  · rfl

/-- How each engine of `ns` takes the tick, one after the other (R1, log 4). -/
def tickStations (late : StationNo → Bool) (ns : List StationNo) (s : State) : State :=
  ns.foldl (fun a n => if late n then a.setStation n { a.station n with tickLate := true } else engineTick n a) s

theorem tickEngines_eq (late : BitVec 8) (s : State) :
    tickEngines late s = tickStations (fun n => late.getLsbD n.val) allStations s := rfl

theorem tickStations_append (late : StationNo → Bool) (ns : List StationNo) (n : StationNo) (s : State) :
    tickStations late (ns ++ [n]) s =
      if late n then (tickStations late ns s).setStation n { (tickStations late ns s).station n with tickLate := true }
      else engineTick n (tickStations late ns s) := by
  simp [tickStations]

section
variable {s a : State} {late : StationNo → Bool} {ns : List StationNo} {n : StationNo}

/-- The engine law finds no FIRING record at a station whose engine is not ON. -/
theorem tickedRecord_append_idle (h : s.engineLaw) (hne : ∀ q, (s.station n).engine ≠ .on q) :
    s.items.map (tickedRecord late (ns ++ [n])) = s.items.map (tickedRecord late ns) := by
  obtain ⟨-, hfire, -⟩ := h
  refine List.map_congr_left fun r hr => tickedRecord_append fun hs hv => ?_
  obtain ⟨m, q, hv', hq, -⟩ := hfire r hr hs
  obtain rfl := Option.some.inj (hv.symm.trans hv')
  exact absurd hq (hne q)

/-- An engine that is ON counts, and of the records its FIRING one alone (R120, R123). -/
theorem tickedRecord_append_on (h : s.engineLaw) (ht : s.tableLaw) (hn : n ∉ ns) (hl : late n = false) {q : Pulse}
    (hq : (s.station n).engine = .on q) {r : ItemRecord} (hr : r ∈ s.items) :
    tickedRecord late (ns ++ [n]) r =
      if r.tag = q.tag then
        { tickedRecord late ns r with
          firing := (tickedRecord late ns r).firing.map fun f => { f with onTicks := satInc q.onTicks } }
      else tickedRecord late ns r := by
  obtain ⟨hon, hfire, -⟩ := h
  split
  next e =>
    obtain ⟨x, hx, hxt, hxs, hxv, hxf⟩ := hon n q hq
    obtain rfl := ht.tag_inj hx hr (e.trans hxt.symm)
    obtain ⟨v, hv, rfl⟩ := Option.map_eq_some_iff.1 hxv
    obtain ⟨f, hf, hfq⟩ := Option.map_eq_some_iff.1 hxf
    simp [tickedRecord, hv, hxs, hn, hl, hf, hfq]
  next e =>
    refine tickedRecord_append fun hs hv => ?_
    obtain ⟨m, q', hv', hq', ht'⟩ := hfire r hr hs
    obtain rfl := Option.some.inj (hv.symm.trans hv')
    obtain rfl := Engine.on.inj (hq.symm.trans hq')
    exact absurd ht'.symm e

/-- What an engine that takes the tick does to the stations and the records. -/
theorem engineTick_spec (h : s.engineLaw) (ht : s.tableLaw) (hn : n ∉ ns) (hl : late n = false)
    (hst : a.station n = s.station n) (hi : a.items = s.items.map (tickedRecord late ns)) :
    (∀ m, (engineTick n a).station m = if m = n then tickedStation false (s.station n) else a.station m) ∧
      (engineTick n a).items = s.items.map (tickedRecord late (ns ++ [n])) := by
  have hsame : (s.station n) = tickedStation false (s.station n) → ∀ m, a.station m =
      if m = n then tickedStation false (s.station n) else a.station m := by
    intro e m
    split
    · next hm => rw [hm, hst, ← e]
    · rfl
  unfold engineTick
  simp only [hst]
  split
  next q hq =>
    refine ⟨fun m => by simp [station_setStation, tickedStation, hq], ?_⟩
    simp only [State.modifyRecord, setStation_items, hi, List.map_map]
    refine List.map_congr_left fun r hr => ?_
    simp [tickedRecord_append_on h ht hn hl hq hr]
  next c hc =>
    refine ⟨fun m => by simp [station_setStation, tickedStation, hc], ?_⟩
    rw [tickedRecord_append_idle h (by simp [hc])]
    exact hi
  next hd =>
    refine ⟨hsame (by simp [tickedStation, hd]), ?_⟩
    rw [tickedRecord_append_idle h (by simp [hd])]
    exact hi
  next ho =>
    refine ⟨hsame (by simp [tickedStation, ho]), ?_⟩
    rw [tickedRecord_append_idle h (by simp [ho])]
    exact hi

theorem tickStations_spec (h : s.engineLaw) (ht : s.tableLaw) (late : StationNo → Bool) (hn : ns.Nodup) :
    (∀ m, (tickStations late ns s).station m = if m ∈ ns then tickedStation (late m) (s.station m) else s.station m) ∧
      (tickStations late ns s).items = s.items.map (tickedRecord late ns) := by
  induction ns using List.reverseRecOn with
  | nil =>
    refine ⟨fun m => by simp [tickStations], ?_⟩
    have : tickedRecord late [] = id := funext fun r => by simp [tickedRecord]; split <;> rfl
    simp [tickStations, this]
  | append_singleton ns n ih =>
    obtain ⟨hns, -, hdis⟩ := List.nodup_append.1 hn
    have hnm : n ∉ ns := fun hm => hdis n hm n (by simp) rfl
    obtain ⟨hst, hi⟩ := ih hns
    have hstn : (tickStations late ns s).station n = s.station n := by rw [hst, if_neg hnm]
    rw [tickStations_append]
    cases hl : late n with
    | true =>
      rw [if_pos rfl]
      refine ⟨fun m => ?_, ?_⟩
      · rw [station_setStation, hstn]
        by_cases e : m = n
        · subst e; simp [tickedStation, hl]
        · simp [e, hst]
      · rw [setStation_items, hi]
        exact List.map_congr_left fun r _ => (tickedRecord_append fun _ _ => hl).symm
    | false =>
      rw [if_neg (by simp)]
      obtain ⟨hst', hi'⟩ := engineTick_spec h ht hnm hl hstn hi
      refine ⟨fun m => ?_, hi'⟩
      rw [hst', hst]
      by_cases e : m = n
      · subst e; simp [hl]
      · simp [e]

end

/-- The engines change the stations and the records alone. -/
theorem engineTick_frame (n : StationNo) (s : State) : ∃ stations items, engineTick n s = { s with stations, items } := by
  unfold engineTick
  simp only
  split
  · exact ⟨_, _, rfl⟩
  · exact ⟨_, s.items, rfl⟩
  · exact ⟨s.stations, s.items, rfl⟩
  · exact ⟨s.stations, s.items, rfl⟩

theorem tickStations_frame (late : StationNo → Bool) (ns : List StationNo) (s : State) :
    ∃ stations items, tickStations late ns s = { s with stations, items } := by
  refine List.foldlRecOn ns _ (motive := fun a : State => ∃ stations items, a = { s with stations, items })
    ⟨s.stations, s.items, rfl⟩ ?_
  rintro _ ⟨stations, items, rfl⟩ n -
  simp only
  split
  · exact ⟨_, items, rfl⟩
  · exact engineTick_frame n { s with stations, items }

/-- Every engine takes the tick or has it still to take, and the FIRING records follow (R1, R123, R127, log 4). -/
theorem tickEngines_spec {s : State} (h : s.engineLaw) (ht : s.tableLaw) (late : BitVec 8) :
    ∃ stations items, tickEngines late s = { s with stations, items } ∧
      (∀ n : StationNo, stations[n.val] = tickedStation (late.getLsbD n.val) (s.station n)) ∧
      items = s.items.map (tickedRecord (fun n => late.getLsbD n.val) allStations) := by
  obtain ⟨stations, items, he⟩ := tickStations_frame (fun n => late.getLsbD n.val) allStations s
  obtain ⟨hst, hi⟩ := tickStations_spec (ns := allStations) h ht (fun n => late.getLsbD n.val) (by decide)
  rw [he] at hst hi
  refine ⟨stations, items, he, fun n => (hst n).trans (if_pos ?_), hi⟩
  decide +revert

end Sys2Proof.Machine
end

section
/-! The tick as a whole (R1, R123). -/

namespace Sys2Proof.Machine

theorem satInc_eq (c : Half) : satInc c = if c = 65535 then 65535 else c + 1 := by
  unfold satInc
  split
  · next h => exact h
  · rfl

theorem mem_allStations (n : StationNo) : n ∈ allStations := by decide +revert

/-- The FIRING record of a station counts, unless the station takes the tick later (R123). -/
theorem tickedRecord_firing {late : StationNo → Bool} {r : ItemRecord} {v : Verdict} {f : Firing} (hs : r.state = .firing)
    (hv : r.verdict = some v) (hf : r.firing = some f) :
    tickedRecord late allStations r =
      if late v.station = true then r
      else { r with firing := some { f with onTicks := if f.onTicks = 65535 then 65535 else f.onTicks + 1 } } := by
  cases hl : late v.station <;> simp [tickedRecord, hv, hs, hf, hl, mem_allStations, satInc_eq]

theorem tickedRecord_other {late : StationNo → Bool} {ns : List StationNo} {r : ItemRecord}
    (h : ∀ v f, r.state = .firing → r.verdict = some v → r.firing = some f → False) : tickedRecord late ns r = r := by
  unfold tickedRecord
  split
  · next v hv =>
    split
    · next hc =>
      cases hf : r.firing with
      | none => rw [Option.map_none, ← hf]
      | some f => exact (h v f hc.1 hv hf).elim
    · rfl
  · rfl

/-- The tick as one update of the state it finds: what becomes of each field that it writes (R1). -/
structure TickOutcome (pins : PinSamples) (late : BitVec 8) (s : State) (lanes : Vector Lane 4) (k : Half) (advanceDue : Bool)
    (stations : Vector Station 8) (items : List ItemRecord) : Prop where
  now : tickNow pins late s =
    { s with
      divCount := s.timebase.divider, encFilter := (filterSample s.encFilter s.timebase.encDepth.toNat pins.enc).1,
      xstopFilter := (filterSample s.xstopFilter 2 pins.xstop).1, xstopEdge := (filterSample s.xstopFilter 2 pins.xstop).2,
      lanes, k, advanceDue, stations, items }
  lane : ∀ l : LaneNo, lanes[l.val] = (s.lane l).sample pins.sns[l.val]
  rateEnd : s.timebase.source = .internal → s.running = true → s.k = 1 → k = s.timebase.rate
  rateCount : s.timebase.source = .internal → s.running = true → s.k ≠ 1 → k = s.k - 1
  rateHeld : s.timebase.source = .encoder ∨ ¬ s.running = true → k = s.k
  advance : advanceDue = true ↔
    (s.timebase.source = .encoder ∧
      (filterSample s.encFilter s.timebase.encDepth.toNat pins.enc).2 = some s.timebase.encEdge ∧ s.running = true) ∨
    (s.timebase.source = .internal ∧ s.running = true ∧ s.k = 1)
  station : ∀ n : StationNo, stations[n.val] = tickedStation (late.getLsbD n.val) (s.station n)
  record : items = s.items.map (tickedRecord (fun n => late.getLsbD n.val) allStations)

theorem tickNow_outcome (pins : PinSamples) (late : BitVec 8) {s : State} (h : s.engineLaw) (ht : s.tableLaw) :
    ∃ lanes k advanceDue stations items, TickOutcome pins late s lanes k advanceDue stations items := by
  obtain ⟨lanes, hl, hlane⟩ := sampleLanes_spec pins.sns
    (sampleXstop pins.xstop (sampleEncoder pins.enc { s with divCount := s.timebase.divider }))
  obtain ⟨k, advanceDue, hk, hend, hcount, hheld, hadv⟩ := countRate_spec
    { sampleXstop pins.xstop (sampleEncoder pins.enc { s with divCount := s.timebase.divider }) with lanes }
  obtain ⟨stations, items, he, hst, hi⟩ := tickEngines_spec (late := late)
    (s := { sampleXstop pins.xstop (sampleEncoder pins.enc { s with divCount := s.timebase.divider }) with
      lanes, k, advanceDue }) h ht
  refine ⟨lanes, k, advanceDue, stations, items, ?_, hlane, hend, hcount, hheld, ?_, hst, hi⟩
  · rw [tickNow, hl, hk, he]
    rfl
  · exact hadv.trans (or_congr_left (by simp [sampleXstop, sampleEncoder, State.running]))

/-- Settles O22. -/
theorem tickIsTakenByEveryUser : Obligations.TickIsTakenByEveryUser := by
  intro s₀ s pins late running hreset hs hsound hrun
  obtain ⟨lanes, k, advanceDue, stations, items, ho⟩ := tickNow_outcome pins late hsound.engines hsound.table
  have hr : running ↔ s.running = true := hrun.trans State.running_iff.symm
  have hexec : exec (.tick pins late) s₀ = .next (tickNow pins late s) :=
    congrArg _ ((event_taken hreset).trans (by rw [hs]))
  have hstation : ∀ n : StationNo, (tickNow pins late s).station n = tickedStation (late.getLsbD n.val) (s.station n) :=
    fun n => by rw [ho.now]; exact ho.station n
  refine ⟨tickNow pins late s, hexec, ?_, ?_, ?_, ?_, ?_, ?_, ?_, ?_, ?_, ?_, ?_, ?_⟩
  · rw [ho.now]
  · rw [ho.now]
  · rw [ho.now]
  · rw [ho.now]; exact ho.lane
  · rw [ho.now]; exact fun hi hg => ho.rateEnd hi (hr.1 hg)
  · rw [ho.now]; exact fun hi hg => ho.rateCount hi (hr.1 hg)
  · rw [ho.now]; exact fun h => ho.rateHeld (h.imp_right fun hn hg => hn (hr.2 hg))
  · rw [ho.now, hr]
    refine ho.advance.trans ?_
    tauto
  · intro n hl
    rw [hstation, hl]
    rfl
  · intro n hl
    rw [hstation, hl]
    refine ⟨fun q hq => ?_, fun c hc => ?_, fun h => ?_⟩
    · simp [tickedStation, hq, satInc_eq]
    · simp [tickedStation, hc]
    · obtain h | h := h <;> simp [tickedStation, h]
  · rw [ho.now]
    refine ho.record.trans (List.map_congr_left fun r _ => ?_)
    split
    · next v f hs hv hf => exact tickedRecord_firing hs hv hf
    · next h => exact tickedRecord_other h
  · rw [ho.now]

end Sys2Proof.Machine
end

section
/-! Run control (chapter 2): what START, DRAIN, RESUME and CLEAR_LINE answer, the drain completion check, and the state after
reset. -/

namespace Sys2Proof.Machine

/-! ### START (R17, R35) -/

/-- A disabled lane stays as it is at START (R17). -/
theorem Lane.atStart_disabled {x : Lane} (h : x.record.enable = false) : x.atStart = x := by
  simp [Lane.atStart, h]

/-- An enabled lane with no deferred sensor fields reads its level under the polarity in force (R17, R35). -/
theorem Lane.atStart_enabled {x : Lane} (h : x.record.enable = true) (hp : x.settingsPending = false) :
    x.atStart = { x with state := if x.filter.q = activeLevel x.polarity then .settling else .clear } := by
  simp [Lane.atStart, Lane.enterSettling, Lane.applyPending, Lane.settleOrClear, Lane.active, h, hp]

/-- The sensor fields of the record come into force; the level is kept and a changed depth clears the run count (R2, R31). -/
theorem Lane.inForce_eq (x : Lane) :
    x.inForce =
      { x with
        polarity := x.record.polarity, depth := x.record.depth, settingsPending := false,
        filter := ⟨x.filter.q, if x.depth = x.record.depth then x.filter.c else 0⟩ } := by
  unfold Lane.inForce filterNewDepth
  split <;> rfl

/-- Deferred sensor fields come into force first, and the level is then read under the new polarity (R35). -/
theorem Lane.atStart_deferred {x : Lane} (h : x.record.enable = true) (hp : x.settingsPending = true) :
    x.atStart =
      { x with
        polarity := x.record.polarity, depth := x.record.depth, settingsPending := false,
        filter := ⟨x.filter.q, if x.depth = x.record.depth then x.filter.c else 0⟩,
        state := if x.filter.q = activeLevel x.record.polarity then .settling else .clear } := by
  simp [Lane.atStart, Lane.enterSettling, Lane.applyPending, Lane.settleOrClear, Lane.active, Lane.inForce_eq, h, hp]

theorem State.xstopActive_of_low {s : State} (h : s.xstopFilter.q = .low) : s.xstopActive = true := by
  simp [State.xstopActive, h]

theorem State.xstopActive_of_high {s : State} (h : s.xstopFilter.q = .high) : s.xstopActive = false := by
  simp [State.xstopActive, h]

theorem doStart_refused {s : State} (h : s.run ≠ .idle) : doStart s = (.state, s) := by
  simp [doStart, h, refuse]

theorem doStart_stopped {s : State} (h : s.run = .idle) (hx : s.xstopFilter.q = .low) : doStart s = (.stopped, s) := by
  simp [doStart, h, State.xstopActive_of_low hx, refuse]

theorem doStart_taken {s : State} (h : s.run = .idle) (hx : s.xstopFilter.q = .high) :
    doStart s = (.ok, { s with
      run := .run, haltCause := .none, k := s.timebase.rate, lanes := s.lanes.map Lane.atStart }) := by
  simp [doStart, h, State.xstopActive_of_high hx]

/-- Settles O14. -/
theorem startRunsTheLine : Obligations.StartRunsTheLine := by
  intro s₀ s hreset hs
  refine ⟨fun hi hx => ⟨s.lanes.map Lane.atStart, ?_, fun l => ?_⟩, fun hi hx => ?_, fun hi => ?_⟩
  · exact exec_command (i := .start) (c := .start) rfl hreset hs (doStart_taken hi hx)
  · have hl : (s.lanes.map Lane.atStart)[l.val] = (s.lane l).atStart := by simp [State.lane]
    rw [hl]
    exact ⟨Lane.atStart_disabled, Lane.atStart_enabled, Lane.atStart_deferred⟩
  · exact exec_command (i := .start) (c := .start) rfl hreset hs (doStart_stopped hi hx)
  · exact exec_command (i := .start) (c := .start) rfl hreset hs (doStart_refused hi)

/-! ### DRAIN and the drain completion check (R18, R19) -/

theorem State.someLive_iff {s : State} : s.someLive ↔ s.hasLive = true := by
  simp [State.someLive, State.hasLive, ItemRecord.isLive]

theorem State.not_someLive_iff {s : State} : ¬ s.someLive ↔ s.hasLive = false := by
  simp [State.someLive_iff]

/-- The check completes nothing outside DRAIN, or while a record is live. -/
theorem drainCheck_incomplete {s : State} (h : s.run ≠ .drain ∨ s.someLive) : drainCheck s = s :=
  h.elim drainCheck_notDrain fun hl => drainCheck_live (State.someLive_iff.1 hl)

theorem doDrain_refused {s : State} (h : s.run ≠ .run) : doDrain s = (.state, s) := by
  simp [doDrain, h, refuse]

theorem doDrain_taken {s : State} (h : s.run = .run) : doDrain s = (.ok, drainCheck { s with run := .drain }) := by
  simp [doDrain, h]

theorem doDrain_waits {s : State} (h : s.run = .run) (hl : s.someLive) : doDrain s = (.ok, { s with run := .drain }) :=
  (doDrain_taken h).trans (congrArg (Prod.mk ResultCode.ok) (drainCheck_incomplete (s := { s with run := .drain }) (.inr hl)))

theorem doDrain_completes {s : State} (h : s.run = .run) (hl : ¬ s.someLive) :
    doDrain s = (.ok, drainComplete { s with run := .drain }) :=
  (doDrain_taken h).trans
    (congrArg (Prod.mk ResultCode.ok) (drainCheck_done (s := { s with run := .drain }) rfl (State.not_someLive_iff.1 hl)))

/-- Settles O15. -/
theorem drainCompletesWithNoLiveRecord : Obligations.DrainCompletesWithNoLiveRecord := by
  refine ⟨fun s₀ s hreset hs => ⟨fun hr hl => ?_, fun hr hl => ?_, fun hr => ?_⟩, fun s hreset => ?_, fun s hd hl => ?_,
    fun s => drainCheck_incomplete⟩
  · exact exec_command (i := .drain) (c := .drain) rfl hreset hs (doDrain_waits hr hl)
  · exact exec_command (i := .drain) (c := .drain) rfl hreset hs (doDrain_completes hr hl)
  · exact exec_command (i := .drain) (c := .drain) rfl hreset hs (doDrain_refused hr)
  · exact congrArg _ (event_taken hreset)
  · exact drainCheck_done hd (State.not_someLive_iff.1 hl)

/-! ### RESUME (R25) -/

theorem doResume_refused {s : State} (h : s.run ≠ .halt) : doResume s = (.state, s) := by
  simp [doResume, h, refuse]

theorem doResume_stopped {s : State} (h : s.run = .halt) (hx : s.xstopFilter.q = .low) : doResume s = (.stopped, s) := by
  simp [doResume, h, State.xstopActive_of_low hx, refuse]

theorem doResume_taken {s : State} (h : s.run = .halt) (hx : s.xstopFilter.q = .high) :
    doResume s = (.ok, { s with run := .idle }) := by
  simp [doResume, h, State.xstopActive_of_high hx]

/-- Settles O19. -/
theorem resumeLeavesHaltForIdle : Obligations.ResumeLeavesHaltForIdle := fun _ _ hreset hs =>
  ⟨fun hh hx => exec_command (i := .resume) (c := .resume) rfl hreset hs (doResume_taken hh hx),
   fun hh hx => exec_command (i := .resume) (c := .resume) rfl hreset hs (doResume_stopped hh hx),
   fun hh => exec_command (i := .resume) (c := .resume) rfl hreset hs (doResume_refused hh)⟩

/-! ### CLEAR_LINE (R26) -/

theorem doClearLine_refused {s : State} (h : s.run ≠ .idle) : doClearLine s = (.state, s) := by
  simp [doClearLine, h, refuse]

/-- With no record live the table becomes empty. -/
theorem doClearLine_taken {s : State} (h : s.run = .idle) (hl : s.hasLive = false) :
    doClearLine s = (.ok, { s with
      queue := [], backlog := [], items := [], tc := 0, lanes := s.lanes.map (fun x => { x with missed := 0 }) }) := by
  have hempty : s.items.filter ItemRecord.isLive = [] :=
    List.filter_eq_nil_iff.2 fun r hr => by simp [ItemRecord.isLive, State.hasLive_eq_false.1 hl r hr]
  simp [doClearLine, h, hempty]

/-- FREE_COUNT of an empty table (R50). -/
theorem readLocation_freeCount {s : State} (h : s.items = []) : s.readLocation 0x14 = 32 := by
  simp [State.readLocation, State.freeCount, Config.tableSlots, packed, h]

/-- Settles O20. -/
theorem clearLineEmptiesQueueAndBacklog : Obligations.ClearLineEmptiesQueueAndBacklog := by
  intro s₀ s hreset hs
  refine ⟨fun hi hsound => ⟨_, ?_, rfl, readLocation_freeCount rfl⟩, fun hi => ?_⟩
  · obtain ⟨hlive, -⟩ := hsound.rest (.inl hi)
    exact exec_command (i := .clearLine) (c := .clearLine) rfl hreset hs (doClearLine_taken hi hlive)
  · exact exec_command (i := .clearLine) (c := .clearLine) rfl hreset hs (doClearLine_refused hi)

/-! ### Reset (R16, R162) -/

theorem spacingLaw_reset : State.reset.spacingLaw := State.spacing_of_check (by decide +kernel)

/-- A law about DRAIN alone holds in every other run state. -/
theorem State.drainLaw_of_ne {s : State} (h : s.run ≠ .drain) : s.drainLaw := fun hd => absurd hd h

/-- Settles O56. -/
theorem resetStateIsSound : Obligations.ResetStateIsSound :=
  ⟨sound_reset, spacingLaw_reset, State.drainLaw_of_ne (by decide)⟩

end Sys2Proof.Machine
end

section
/-! The halt entry (R22): what one retirement does to the queue, the backlog and the announce list, what the retirements of all
live records do, and HALT and XSTOP that begin it. -/

namespace Sys2Proof.Machine

section
variable {P : ItemRecord → Prop} {s t a : State} {r : ItemRecord} {c : OutcomeCode}

/-! ### Records by their tags -/

/-- The record of a tag is found by it. -/
theorem State.tableLaw.heldRecord_eq (h : s.tableLaw) (hr : r ∈ s.items) : s.heldRecord r.tag = some r := by
  cases hf : s.heldRecord r.tag with
  | none => exact absurd (List.find?_eq_none.1 hf r hr) (by simp)
  | some x =>
    obtain ⟨hx, hxt⟩ := heldRecord_spec hf
    rw [h.tag_inj hr hx hxt]

/-- A record is found by its tag after a change that keeps tags, as changed. -/
theorem heldRecord_modifyRecord (s : State) (t u : Byte) {f : ItemRecord → ItemRecord} (hf : ∀ x, (f x).tag = x.tag) :
    (s.modifyRecord t f).heldRecord u = (s.heldRecord u).map fun r => if r.tag = t then f r else r := by
  have htag : ∀ x : ItemRecord, (if x.tag = t then f x else x).tag = x.tag := fun x => by split <;> simp [hf]
  simp [State.heldRecord, State.modifyRecord, List.find?_map, htag]

theorem heldRecord_modifyRecord_ne (s : State) {t u : Byte} (hu : u ≠ t) {f : ItemRecord → ItemRecord}
    (hf : ∀ x, (f x).tag = x.tag) : (s.modifyRecord t f).heldRecord u = s.heldRecord u := by
  rw [heldRecord_modifyRecord s t u hf]
  cases h : s.heldRecord u with
  | none => rfl
  | some x =>
    have hx : x.tag ≠ t := (heldRecord_spec h).2.trans_ne hu
    simp [hx]

/-! ### One retirement (R69, R70, R140) -/

/-- What the outcome unit does with a retired record: its outcome enters the queue and its slot is free, or it joins the
backlog, whose flag is set when it was empty (R140, R170). -/
theorem retire_live_cases (h : s.liveRecord r.tag = some r) (c : OutcomeCode) :
    (s.queueTakes = true ∧ (retire r.tag c s).queue = s.queue ++ [outcomeOf r c] ∧ (retire r.tag c s).backlog = s.backlog ∧
        (retire r.tag c s).backlogFlag = s.backlogFlag) ∨
      (s.queueTakes = false ∧ (retire r.tag c s).queue = s.queue ∧ (retire r.tag c s).backlog = s.backlog ++ [r.tag] ∧
        (retire r.tag c s).backlogFlag = (s.backlogFlag || s.backlog.isEmpty) ∧
        (retire r.tag c s).items = (s.modifyRecord r.tag (fun x => { x with state := .retired, outcome := some c })).items) := by
  have hq : ((s.dropAnnounce r.tag).dropListed r).queueTakes = s.queueTakes := by simp [State.queueTakes]
  rw [retire_live h]
  cases ht : s.queueTakes with
  | true =>
    rw [accept_queued (hq.trans ht)]
    exact .inl ⟨rfl, by simp, by simp, by simp⟩
  | false =>
    rw [accept_backlogged (hq.trans ht)]
    exact .inr ⟨rfl, by simp, by simp, by simp, by simp [State.modifyRecord]⟩

theorem retire_announce (h : s.liveRecord r.tag = some r) (c : OutcomeCode) :
    (retire r.tag c s).announce = s.announce.filter (· != r.tag) := by
  simp [retire_live h, State.dropAnnounce]

theorem State.queueTakes_iff : s.queueTakes = true ↔ s.queue.length < 16 ∧ s.backlog = [] := by
  rw [State.queueTakes, Bool.and_eq_true, decide_eq_true_eq, List.isEmpty_iff]
  rfl

/-- An outcome record reads neither the item state nor the OUTCOME field (R137). -/
theorem outcomeOf_retired (r : ItemRecord) (o : Option OutcomeCode) (c : OutcomeCode) :
    outcomeOf { r with state := .retired, outcome := o } c = outcomeOf r c := rfl

/-- The outcome of the retired record is the last that waits (R139, R140). -/
theorem State.Filed.retire_waiting (h : s.Filed P) (hr : r ∈ s.items) (hl : r.state ≠ .retired) (c : OutcomeCode) :
    (retire r.tag c s).waiting = s.waiting ++ [outcomeOf r c] := by
  obtain ⟨hq, hqueue, hback, -⟩ | ⟨-, hqueue, hback, -, hitems⟩ :=
    retire_live_cases (h.table.liveRecord_eq hr (ItemRecord.isLive_iff.2 hl)) c
  · obtain ⟨-, hb⟩ := State.queueTakes_iff.1 hq
    simp [State.waiting, hqueue, hback, hb]
  · have hheld : ∀ u, (retire r.tag c s).heldRecord u =
        (s.modifyRecord r.tag (fun x => { x with state := .retired, outcome := some c })).heldRecord u :=
      fun u => by rw [State.heldRecord, hitems]; rfl
    have hown : (retire r.tag c s).heldRecord r.tag = some { r with state := .retired, outcome := some c } := by
      rw [hheld, heldRecord_modifyRecord s r.tag r.tag (by exact fun _ => rfl), h.table.heldRecord_eq hr]
      simp
    have hothers : ∀ u ∈ s.backlog, (retire r.tag c s).heldRecord u = s.heldRecord u := fun u hu => by
      have hne : u ≠ r.tag := fun e => h.not_mem_backlog hr hl (e ▸ hu)
      rw [hheld, heldRecord_modifyRecord_ne s hne (by exact fun _ => rfl)]
    have hkept : s.backlog.filterMap (fun u => ((retire r.tag c s).heldRecord u).map fun x => outcomeOf x (x.outcome.getD .halted)) =
        s.backlog.filterMap (fun u => (s.heldRecord u).map fun x => outcomeOf x (x.outcome.getD .halted)) :=
      List.filterMap_congr fun u hu => by rw [hothers u hu]
    simp [State.waiting, hqueue, hback, List.filterMap_append, hkept, hown, outcomeOf_retired]

theorem retire_queueLaw (hq : s.queueLaw) (h : s.liveRecord r.tag = some r) (c : OutcomeCode) :
    (retire r.tag c s).queueLaw := by
  obtain ⟨hlen, hfull⟩ := hq
  obtain ⟨ht, hqueue, hback, -⟩ | ⟨ht, hqueue, hback, -⟩ := retire_live_cases h c
  · obtain ⟨hroom, hb⟩ := State.queueTakes_iff.1 ht
    refine ⟨?_, fun hne => absurd (hback.trans hb) hne⟩
    rw [hqueue, List.length_append, List.length_singleton]
    omega
  · refine ⟨by rwa [hqueue], fun _ => ?_⟩
    rw [hqueue]
    by_cases hb : s.backlog = []
    · have hroom : ¬ s.queue.length < 16 := fun hroom => by simp [State.queueTakes_iff.2 ⟨hroom, hb⟩] at ht
      omega
    · exact hfull hb

/-! ### Retirements of many records -/

/-- `t` is `s` after the retirement of the live records `rs` with code `c`, one after the other. -/
structure RetiredAll (c : OutcomeCode) (rs : List ItemRecord) (t s : State) : Prop where
  filed    : t.Filed ItemRecord.presence
  queue    : t.queueLaw
  others   : ∀ x, x.tag ∉ rs.map ItemRecord.tag → (x ∈ t.items ↔ x ∈ s.items)
  waiting  : t.waiting = s.waiting ++ rs.map (outcomeOf · c)
  count    : t.queue.length + t.backlog.length = s.queue.length + s.backlog.length + rs.length
  announce : ∀ u, u ∈ t.announce ↔ u ∈ s.announce ∧ u ∉ rs.map ItemRecord.tag
  flag     : t.backlogFlag = (s.backlogFlag || !t.backlog.isEmpty)

theorem RetiredAll.nil (h : s.Filed ItemRecord.presence) (hq : s.queueLaw) (hf : s.backlogFlagLaw) : RetiredAll c [] s s where
  filed := h
  queue := hq
  others _ _ := .rfl
  waiting := by simp
  count := by simp
  announce := by simp
  flag := by
    cases hb : s.backlog with
    | nil => simp
    | cons u us => simp [hf (by simp [hb])]

/-- One record more retires. -/
theorem RetiredAll.append {rs : List ItemRecord} (h : RetiredAll c rs a s) (hr : r ∈ a.items) (hl : r.state ≠ .retired) :
    RetiredAll c (rs ++ [r]) (retire r.tag c a) s := by
  have hlive := h.filed.table.liveRecord_eq hr (ItemRecord.isLive_iff.2 hl)
  constructor
  case filed => exact h.filed.retire_keeps r.tag c
  case queue => exact retire_queueLaw h.queue hlive c
  case others =>
    intro x hx
    obtain ⟨hx, hxr⟩ : x.tag ∉ rs.map ItemRecord.tag ∧ x.tag ≠ r.tag := by
      rwa [List.map_append, List.mem_append, not_or, List.map_singleton, List.mem_singleton] at hx
    exact ((h.filed.oneRecord_retire hr hl c).others x hxr).trans (h.others x hx)
  case waiting => rw [h.filed.retire_waiting hr hl, h.waiting, List.map_append, List.append_assoc, List.map_singleton]
  case count =>
    have := h.count
    obtain ⟨-, hqueue, hback, -⟩ | ⟨-, hqueue, hback, -⟩ := retire_live_cases hlive c <;>
    · rw [hqueue, hback]
      simp only [List.length_append, List.length_singleton]
      omega
  case announce =>
    intro u
    simp only [retire_announce hlive, List.mem_filter, bne_iff_ne, h.announce, List.map_append, List.map_singleton,
      List.mem_append, List.mem_singleton, not_or, and_assoc]
  case flag =>
    have := h.flag
    obtain ⟨-, -, hback, hflag⟩ | ⟨-, -, hback, hflag, -⟩ := retire_live_cases hlive c
    · rw [hflag, hback, this]
    · rw [hflag, hback, this]
      cases a.backlog <;> simp

/-- Live records of distinct tags retire one after the other. -/
theorem State.Filed.retiredAll (h : s.Filed ItemRecord.presence) (hq : s.queueLaw) (hf : s.backlogFlagLaw) (c : OutcomeCode)
    {rs : List ItemRecord} (hrs : ∀ r ∈ rs, r ∈ s.items ∧ r.state ≠ .retired) (hn : (rs.map ItemRecord.tag).Nodup) :
    RetiredAll c rs ((rs.map ItemRecord.tag).foldl (fun a u => retire u c a) s) s := by
  induction rs using List.reverseRecOn with
  | nil => exact .nil h hq hf
  | append_singleton rs r ih =>
    rw [List.map_append, List.nodup_append] at hn
    obtain ⟨hn, -, hdis⟩ := hn
    have hrn : r.tag ∉ rs.map ItemRecord.tag := fun hm => hdis _ hm _ (by simp) rfl
    obtain ⟨hr, hl⟩ := hrs r (by simp)
    have ha := ih (fun x hx => hrs x (by simp [hx])) hn
    rw [List.map_append, List.foldl_append]
    exact ha.append ((ha.others r hrn).2 hr) hl

/-! ### Halt entry (R22, R48, R117, R129) -/

theorem Engine.atHalt_eq (e : Engine) : e.atHalt = if e = .disabled then .disabled else .offReady := by
  cases e <;> rfl

/-- A halt entry finds a station as it was before the retirements, whose lists alone they change (R69). -/
theorem retire_atHalt (t : Byte) (c : OutcomeCode) (s : State) (n : StationNo) :
    ((retire t c s).station n).atHalt = (s.station n).atHalt := by
  have hdrop : ∀ (a : State) (r : ItemRecord), ((a.dropListed r).station n).atHalt = (a.station n).atHalt := by
    intro a r
    unfold State.dropListed
    split
    · next v _ _ =>
      rw [State.dropOrder, station_setStation]
      split
      · next e => rw [e]; rfl
      · rfl
    · rfl
  unfold retire
  split
  · rfl
  · next r _ =>
    have hacc : ∀ b : State, (b.accept r c).station n = b.station n := fun b => by simp [State.station]
    rw [hacc, hdrop]
    rfl

theorem haltEntry_station (cause : HaltCause) (s : State) (n : StationNo) :
    (haltEntry cause s).station n = (s.station n).atHalt := by
  have hmap : (haltEntry cause s).station n = ((((s.items.filter ItemRecord.isLive).map ItemRecord.tag).foldl
      (fun a u => retire u .halted a) { s with run := .halt, haltCause := cause }).station n).atHalt := by
    simp [haltEntry, State.station]
  rw [hmap]
  exact foldl_keeps (fun a => (a.station n).atHalt) _ (fun a u => retire_atHalt u .halted a n) _ _

theorem haltEntry_lane (cause : HaltCause) (s : State) (l : LaneNo) : (haltEntry cause s).lane l = (s.lane l).toOff := by
  simp [State.lane]

theorem retire_frame (u : Byte) (c : OutcomeCode) (s : State) :
    ∃ items announce stations queue backlog backlogFlag,
      retire u c s = { s with items, announce, stations, queue, backlog, backlogFlag } := by
  unfold retire
  split
  · exact ⟨_, _, _, _, _, _, rfl⟩
  · unfold State.dropListed State.accept
    (repeat' split) <;> exact ⟨_, _, _, _, _, _, rfl⟩

theorem retireAll_frame (us : List Byte) (c : OutcomeCode) (s : State) :
    ∃ items announce stations queue backlog backlogFlag,
      us.foldl (fun a u => retire u c a) s = { s with items, announce, stations, queue, backlog, backlogFlag } := by
  induction us generalizing s with
  | nil => exact ⟨_, _, _, _, _, _, rfl⟩
  | cons u us ih =>
    obtain ⟨items, announce, stations, queue, backlog, backlogFlag, e⟩ := retire_frame u c s
    rw [List.foldl_cons, e]
    exact ih _

/-- The fields that a halt entry writes (R22). -/
theorem haltEntry_frame (cause : HaltCause) (s : State) :
    ∃ items announce stations queue backlog backlogFlag lanes,
      haltEntry cause s =
        { s with run := .halt, haltCause := cause, haltEntered := true, advanceDue := false,
                 items, announce, stations, queue, backlog, backlogFlag, lanes } := by
  obtain ⟨items, announce, stations, queue, backlog, backlogFlag, e⟩ :=
    retireAll_frame ((s.items.filter ItemRecord.isLive).map ItemRecord.tag) .halted { s with run := .halt, haltCause := cause }
  unfold haltEntry
  simp only [e]
  exact ⟨_, _, _, _, _, _, _, rfl⟩

/-- In the queue and the backlog, and in the announce list, a halt entry is the retirement of all live records. -/
theorem State.Sound.haltEntry_retiredAll (h : s.Sound) (cause : HaltCause) :
    RetiredAll .halted (s.items.filter ItemRecord.isLive)
      (((s.items.filter ItemRecord.isLive).map ItemRecord.tag).foldl (fun a u => retire u .halted a)
        { s with run := .halt, haltCause := cause }) { s with run := .halt, haltCause := cause } := by
  have hfiled : ({ s with run := .halt, haltCause := cause } : State).Filed ItemRecord.presence :=
    ⟨h.table, h.backlog, h.presence⟩
  refine hfiled.retiredAll h.queue h.flag .halted (fun r hr => ?_) (h.table.2.sublist (List.filter_sublist.map _))
  obtain ⟨hr, hl⟩ := List.mem_filter.1 hr
  exact ⟨hr, ItemRecord.isLive_iff.1 hl⟩

/-- The halt entry of R22. -/
theorem State.Sound.haltedFrom (h : s.Sound) (cause : HaltCause) : (haltEntry cause s).HaltedFrom s cause := by
  have hall := h.haltEntry_retiredAll cause
  have hcount : (haltEntry cause s).queue.length + (haltEntry cause s).backlog.length =
      s.queue.length + s.backlog.length + (s.items.filter ItemRecord.isLive).length := hall.count
  have hqueue : (haltEntry cause s).queueLaw := hall.queue
  have hflag : (haltEntry cause s).backlogFlag = (s.backlogFlag || !(haltEntry cause s).backlog.isEmpty) := hall.flag
  have hannounce : (haltEntry cause s).announce = [] := by
    refine List.eq_nil_iff_forall_not_mem.2 fun u hu => ?_
    obtain ⟨hu, hn⟩ := (hall.announce u).1 hu
    obtain ⟨r, hr, rfl, hp⟩ := h.announce.2 u hu
    exact hn (List.mem_map.2 ⟨r, List.mem_filter.2 ⟨hr, ItemRecord.isLive_iff.2 (by simp [hp])⟩, rfl⟩)
  constructor
  case outcomes => exact hall.waiting
  case queued =>
    obtain ⟨hlen, hfull⟩ := hqueue
    rw [← hcount]
    cases hb : (haltEntry cause s).backlog with
    | nil => simp [hlen]
    | cons u us => simp [hfull (by simp [hb])]
  case noLive =>
    have hc := h.coupled.haltEntry_coupled cause
    exact State.not_someLive_iff.2 (hc.rest (.inr (haltEntry_run cause s))).1
  case stations =>
    intro n
    rw [haltEntry_station, Station.atHalt, Engine.atHalt_eq]
  case lanes => exact haltEntry_lane cause s
  case rest =>
    obtain ⟨items, announce, stations, queue, backlog, backlogFlag, lanes, e⟩ := haltEntry_frame cause s
    rw [e] at hflag hannounce ⊢
    simp only at hflag hannounce
    rw [hflag, hannounce]

/-! ### HALT (R20) -/

theorem doHalt_refused (h : s.running = false) : doHalt s = (.state, s) := by
  simp [doHalt, h, refuse]

/-- What was due has completed the drain (R19). -/
theorem doHalt_ended (h : s.running = true) (ha : a = settleDue s) (hr : a.running = false) : doHalt s = (.state, a) := by
  simp [doHalt, h, ← ha, hr, refuse]

theorem doHalt_taken (h : s.running = true) (ha : a = settleDue s) (hr : a.running = true) :
    doHalt s = (.ok, haltEntry .command a) := by
  simp [doHalt, h, ← ha, hr]

/-! ### XSTOP (R4, R21) -/

theorem filterAt_eq (f : Filter) (l : Level) : filterAt f l = ⟨l, if f.q = l then f.c else 0⟩ := by
  unfold filterAt
  split
  · next h => subst h; rfl
  · rfl

theorem edgeStart_eq (p : Prop) [Decidable p] (s : State) : edgeStart (decide p) s = if p then s else finishTick s := by
  simp [edgeStart]

/-- The row of an XSTOP change: the level it leads to, then run control (log 3). -/
theorem xstopChange_eq {d : EdgeDir} {s₀ : State} (hs : s = if s₀.xstopEdge = some d then s₀ else finishTick s₀) :
    xstopChange d s₀ = takeXstop d
      { s with xstopFilter := ⟨edgeLevel d, if s.xstopFilter.q = edgeLevel d then s.xstopFilter.c else 0⟩, xstopEdge := none } := by
  rw [xstopChange, edgeStart_eq, ← hs, filterAt_eq]

theorem takeXstop_halts (h : s.running = true) (ha : a = settleDue s) (hr : a.running = true) :
    takeXstop .falling s = haltEntry .xstop a := by
  simp [takeXstop, h, ← ha, hr]

theorem takeXstop_ended (h : s.running = true) (ha : a = settleDue s) (hr : a.running = false) :
    takeXstop .falling s = a := by
  simp [takeXstop, h, ← ha, hr]

theorem takeXstop_resting (h : s.running = false) : takeXstop .falling s = s := by
  simp [takeXstop, h]

end

/-- Settles O17. -/
theorem haltEndsEveryLiveRecord : Obligations.HaltEndsEveryLiveRecord := by
  intro s₀ s a hreset hs ha
  refine ⟨fun hr hra hsound => ⟨_, hsound.haltedFrom .command, ?_⟩, fun hr hra => ?_, fun hr => ?_⟩
  · exact exec_command (i := .halt) (c := .halt) rfl hreset hs
      (doHalt_taken (State.running_iff.2 hr) ha (State.running_iff.2 hra))
  · exact exec_command (i := .halt) (c := .halt) rfl hreset hs
      (doHalt_ended (State.running_iff.2 hr) ha (State.resting_iff.2 hra))
  · exact exec_command (i := .halt) (c := .halt) rfl hreset hs (doHalt_refused (State.resting_iff.2 hr))

/-- Settles O18. -/
theorem xstopHaltsARunningLine : Obligations.XstopHaltsARunningLine := by
  intro s₀ hreset
  have hexec : ∀ {d : EdgeDir} {u : State}, xstopChange d s₀ = u →
      Host.Outcome.next (event (xstopChange d) s₀) = (.next u : Answer) :=
    fun he => congrArg _ ((event_taken hreset).trans he)
  refine ⟨fun s a b hs ha hb => ?_, fun s hs => hexec (xstopChange_eq hs)⟩
  have hx : xstopChange .falling s₀ = takeXstop .falling a := (xstopChange_eq hs).trans (by rw [ha]; rfl)
  have hrun : a.run = s.run := by rw [ha]
  refine ⟨fun hr hrb hsound => ⟨_, hsound.haltedFrom .xstop, ?_⟩, fun hr hrb => ?_, fun hr => ?_⟩ <;> rw [← hrun] at hr
  · exact hexec (hx.trans (takeXstop_halts (State.running_iff.2 hr) hb (State.running_iff.2 hrb)))
  · exact hexec (hx.trans (takeXstop_ended (State.running_iff.2 hr) hb (State.resting_iff.2 hrb)))
  · exact hexec (hx.trans (takeXstop_resting (State.resting_iff.2 hr)))

end Sys2Proof.Machine
end

section
/-! In DRAIN a record is live: every event that ends a live record makes the drain completion check, and every other event
keeps what is live (R19). -/

namespace Sys2Proof.Machine

section
variable {s s' t : State}

/-! ### The check, and what keeps the live records -/

/-- After the check a drain has something to wait for, whatever came before it. -/
theorem drainCheck_drainLaw (s : State) : (drainCheck s).drainLaw := by
  by_cases h : s.run = .drain ∧ s.hasLive = false
  · rw [drainCheck_done h.1 h.2]
    exact State.drainLaw_of_ne (by simp [drainComplete])
  · intro hd
    rw [drainCheck, if_neg h] at hd ⊢
    exact State.someLive_iff.2 (by simpa [hd] using h)

theorem retireAndCheck_drainLaw (u : Byte) (c : OutcomeCode) (s : State) : (retireAndCheck u c s).drainLaw :=
  drainCheck_drainLaw _

/-- An event that begins no drain and keeps some record live. -/
theorem State.drainLaw.congr (h : s.drainLaw) (hrun : s'.run = .drain → s.run = .drain) (hl : s.someLive → s'.someLive) :
    s'.drainLaw := fun hd => hl (h (hrun hd))

/-- The law reads the run state and the records alone. -/
theorem State.drainLaw.frame (h : s.drainLaw) (hrun : s'.run = s.run) (hi : s'.items = s.items) : s'.drainLaw :=
  h.congr (fun hd => hrun.symm.trans hd) fun hl => by rwa [State.someLive, hi]

/-- A change of one record that retires none. -/
theorem State.drainLaw.modifyRecord_keeps (h : s.drainLaw) (u : Byte) {f : ItemRecord → ItemRecord}
    (hf : ∀ x, x.state ≠ .retired → (f x).state ≠ .retired) : (s.modifyRecord u f).drainLaw := by
  refine h.congr id ?_
  rintro ⟨r, hr, hl⟩
  by_cases e : r.tag = u
  · exact ⟨f r, mem_modifyRecord.2 (.inr ⟨r, hr, e, rfl⟩), hf r hl⟩
  · exact ⟨r, mem_modifyRecord.2 (.inl ⟨hr, e⟩), hl⟩

theorem foldl_drainLaw {β : Type} {f : State → β → State} (hf : ∀ a b, a.drainLaw → (f a b).drainLaw) (xs : List β)
    (h : s.drainLaw) : (xs.foldl f s).drainLaw :=
  List.foldlRecOn xs f h fun a ha b _ => hf a b ha

theorem State.drainLaw.forStations_keeps {f : StationNo → State → State} (hf : ∀ n a, a.drainLaw → (f n a).drainLaw)
    (h : s.drainLaw) : (forStations f s).drainLaw := foldl_drainLaw (fun a n => hf n a) allStations h

theorem State.drainLaw.forLanes_keeps {f : LaneNo → State → State} (hf : ∀ l a, a.drainLaw → (f l a).drainLaw)
    (h : s.drainLaw) : (forLanes f s).drainLaw := foldl_drainLaw (fun a l => hf l a) allLanes h

/-! ### Stations and engines (chapters 6 and 7) -/

theorem State.drainLaw.takeGuardMark_keeps (h : s.drainLaw) (n : StationNo) : (takeGuardMark n s).drainLaw :=
  h.frame (by simp) (by simp)

theorem State.drainLaw.takeRecoveryEnd_keeps (h : s.drainLaw) (n : StationNo) : (takeRecoveryEnd n s).drainLaw :=
  h.frame (by simp) (by simp)

theorem pulseEnd_drainLaw (n : StationNo) (u : Byte) (c : OutcomeCode) (s : State) : (pulseEnd n u c s).drainLaw :=
  retireAndCheck_drainLaw u c _

theorem State.drainLaw.takeTimePulseEnd_keeps (h : s.drainLaw) (n : StationNo) : (takeTimePulseEnd n s).drainLaw := by
  obtain e | ⟨q, c, -, e⟩ := takeTimePulseEnd_cases n s <;> rw [e]
  · exact h
  · exact pulseEnd_drainLaw n q.tag c s

theorem State.drainLaw.takeMaxOnCut_keeps (h : s.drainLaw) (n : StationNo) : (takeMaxOnCut n s).drainLaw := by
  obtain e | ⟨q, -, e⟩ := takeMaxOnCut_cases n s <;> rw [e]
  · exact h
  · exact pulseEnd_drainLaw n q.tag .firedCut s

theorem State.drainLaw.takeOffPosition_keeps (h : s.drainLaw) (n : StationNo) : (takeOffPosition n s).drainLaw := by
  obtain e | ⟨q, c, -, e⟩ := takeOffPosition_cases n s <;> rw [e]
  · exact h
  · exact pulseEnd_drainLaw n q.tag c s

/-- An engine that takes a tick counts, and ends nothing (R123). -/
theorem State.drainLaw.engineTick_keeps (h : s.drainLaw) (n : StationNo) : (engineTick n s).drainLaw := by
  unfold engineTick
  simp only
  split
  next q _ =>
    exact State.drainLaw.modifyRecord_keeps (h.frame (by rfl) (by rfl)) q.tag fun _ => id
  all_goals exact h

theorem State.drainLaw.takeLateTick_keeps (h : s.drainLaw) (n : StationNo) : (takeLateTick n s).drainLaw := by
  unfold takeLateTick
  split
  · exact State.drainLaw.engineTick_keeps (h.frame (by rfl) (by rfl)) n
  · exact h

/-- A head that arrives is FIRING, or retires with the check (R121, R122). -/
theorem State.drainLaw.takeArrival_keeps (h : s.drainLaw) (n : StationNo) : (takeArrival n s).drainLaw := by
  obtain e | ⟨u, o, -, -, e⟩ | ⟨u, o, -, e⟩ := takeArrival_cases n s <;> rw [e]
  · exact h
  · exact State.drainLaw.modifyRecord_keeps (h.frame (by rfl) (by rfl)) u (by simp)
  · exact retireAndCheck_drainLaw u .collided _

/-! ### Placement and the deadline (R60, R81, R114) -/

theorem State.drainLaw.bumpAll_keeps (h : s.drainLaw) (tags : List Byte) : (bumpAll tags s).drainLaw :=
  foldl_drainLaw (fun a u _ => retireAndCheck_drainLaw u .bumped a) tags h

theorem State.drainLaw.place_keeps (h : s.drainLaw) (u : Byte) (v : Verdict) (o : Order) (tags : List Byte) :
    (place u v o tags s).drainLaw :=
  State.drainLaw.modifyRecord_keeps ((h.bumpAll_keeps tags).frame (by rfl) (by rfl)) u (by simp)

theorem State.drainLaw.defaultEject_keeps (h : s.drainLaw) (r : ItemRecord) : (defaultEject r s).drainLaw := by
  have hv : (s.modifyRecord r.tag fun x => { x with verdict := some (defaultVerdict r.snapshot) }).drainLaw :=
    h.modifyRecord_keeps r.tag (by simp)
  unfold defaultEject
  simp only
  split
  · exact retireAndCheck_drainLaw r.tag .unroutable _
  · split
    · exact retireAndCheck_drainLaw r.tag .missedWindow _
    · split
      · exact retireAndCheck_drainLaw r.tag .conflict _
      · exact hv.place_keeps r.tag _ _ _

theorem State.drainLaw.takeDeadline_keeps (h : s.drainLaw) (u : Byte) : (takeDeadline u s).drainLaw := by
  unfold takeDeadline
  split
  · exact h
  · split
    · split
      · exact retireAndCheck_drainLaw u .defaultPassed s
      · exact h.defaultEject_keeps _
    · exact h

/-! ### Lanes (chapter 3) -/

theorem State.drainLaw.takeJam_keeps (h : s.drainLaw) (l : LaneNo) : (takeJam l s).drainLaw := by
  unfold takeJam
  split
  · exact h
  · exact drainCheck_drainLaw _

/-- A lead edge makes an item in RUN alone (R36, R37). -/
theorem State.drainLaw.takeLead_keeps (h : s.drainLaw) (l : LaneNo) : (takeLead l s).drainLaw := by
  unfold takeLead
  simp only
  split
  next hc =>
    refine State.drainLaw_of_ne ?_
    split <;> simp [allocate, hc.2]
  next => exact h

/-- A measurement that ends leaves a PENDING record, or discards a short item with the check (R40, R41). -/
theorem State.drainLaw.endMeasurement_keeps (h : s.drainLaw) (l : LaneNo) (u : Byte) : (endMeasurement l u s).drainLaw := by
  unfold endMeasurement
  simp only
  split
  · exact h
  · split
    · exact h
    · split
      · exact drainCheck_drainLaw _
      · exact (h.modifyRecord_keeps u (f := fun x => { x with length := some _, state := .pending }) (by simp)).frame rfl rfl

theorem State.drainLaw.takeTrailing_keeps (h : s.drainLaw) (l : LaneNo) : (takeTrailing l s).drainLaw := by
  have hj := h.takeJam_keeps l
  unfold takeTrailing takeTrailingNow
  simp only
  split
  · exact hj
  · exact hj
  · exact hj
  · exact hj
  · exact hj
  · split
    · exact hj.endMeasurement_keeps l _
    · exact hj

theorem State.drainLaw.takeSense_keeps (h : s.drainLaw) (l : LaneNo) (x : Sense) : (takeSense l x s).drainLaw := by
  cases x with
  | lead => exact h.takeLead_keeps l
  | trailing => exact h.takeTrailing_keeps l

theorem State.drainLaw.flushLane_keeps (h : s.drainLaw) (l : LaneNo) : (flushLane l s).drainLaw := by
  unfold flushLane
  split
  · exact h
  · exact State.drainLaw.takeSense_keeps (h.frame (by rfl) (by rfl)) l _

/-! ### Settling, the advance and XSTOP (log 2) -/

theorem State.drainLaw.settleReached_keeps (h : s.drainLaw) : (settleReached s).drainLaw := by
  refine foldl_drainLaw (fun a u ha => ha.takeDeadline_keeps u) _ ?_
  exact (((h.forStations_keeps fun n _ ha => ha.takeGuardMark_keeps n).forStations_keeps
    fun n _ ha => ha.takeOffPosition_keeps n).forStations_keeps fun n _ ha => ha.takeArrival_keeps n).forLanes_keeps
      fun l _ ha => ha.takeJam_keeps l

theorem State.drainLaw.settleEngines_keeps (h : s.drainLaw) : (settleEngines s).drainLaw :=
  ((h.forStations_keeps fun n _ ha => ha.takeTimePulseEnd_keeps n).forStations_keeps
    fun n _ ha => ha.takeMaxOnCut_keeps n).forStations_keeps fun n _ ha => ha.takeRecoveryEnd_keeps n

theorem State.drainLaw.settleDue_keeps (h : s.drainLaw) : (settleDue s).drainLaw := h.settleEngines_keeps.settleReached_keeps

theorem State.drainLaw.advance_keeps (h : s.drainLaw) : (advance s).drainLaw := by
  have hcount : ∀ a : State, a.drainLaw → ({ a with p := a.p + 1 } : State).drainLaw := fun _ => id
  have hs := h.settleReached_keeps
  cases hr : (settleReached s).running with
  | true => rw [advance_running rfl hr]; exact hcount _ hs
  | false => rw [advance_resting rfl hr]; exact hs

theorem State.drainLaw.takeDueAdvance_keeps (h : s.drainLaw) : (takeDueAdvance s).drainLaw := by
  unfold takeDueAdvance
  split
  · simp only
    split
    · exact State.drainLaw.advance_keeps h
    · exact h
  · exact h

theorem haltEntry_drainLaw (cause : HaltCause) (s : State) : (haltEntry cause s).drainLaw :=
  State.drainLaw_of_ne (by simp)

theorem State.drainLaw.takeXstop_keeps (h : s.drainLaw) (d : EdgeDir) : (takeXstop d s).drainLaw := by
  cases d with
  | rising => exact h
  | falling =>
    simp only [takeXstop]
    split
    · split
      · exact haltEntry_drainLaw .xstop _
      · exact h.settleDue_keeps
    · exact h

theorem State.drainLaw.flushXstop_keeps (h : s.drainLaw) : (flushXstop s).drainLaw := by
  unfold flushXstop
  split
  · exact h
  · exact State.drainLaw.takeXstop_keeps (h.frame (by rfl) (by rfl)) _

theorem State.drainLaw.finishTick_keeps (h : s.drainLaw) : (finishTick s).drainLaw :=
  (h.settleEngines_keeps.takeDueAdvance_keeps.forLanes_keeps fun l _ ha => ha.flushLane_keeps l).flushXstop_keeps

theorem State.drainLaw.settleAll_keeps (h : s.drainLaw) : (settleAll s).drainLaw :=
  (((h.settleDue_keeps.takeDueAdvance_keeps.settleReached_keeps.forStations_keeps
    fun n _ ha => ha.takeLateTick_keeps n).settleEngines_keeps).forLanes_keeps fun l _ ha => ha.flushLane_keeps l).flushXstop_keeps

/-! ### Edges, events and the tick -/

theorem State.drainLaw.event_keeps {f : State → State} (h : s.drainLaw) (hf : (f s).drainLaw) : (event f s).drainLaw := by
  unfold event
  split
  · exact h
  · exact hf

theorem State.drainLaw.access_keeps {f : State → State} (h : s.drainLaw) (hf : ∀ a, a.drainLaw → (f a).drainLaw) :
    (access f s).drainLaw := h.event_keeps (hf _ h.finishTick_keeps)

theorem State.drainLaw.edgeStart_keeps (h : s.drainLaw) (waits : Bool) : (edgeStart waits s).drainLaw := by
  unfold edgeStart
  split
  · exact h
  · exact h.finishTick_keeps

theorem State.drainLaw.takeEncoder_keeps (h : s.drainLaw) (d : EdgeDir) : (takeEncoder d s).drainLaw := by
  unfold takeEncoder
  simp only
  split
  · exact State.drainLaw.advance_keeps h
  · exact h

theorem State.drainLaw.laneEdge_keeps (h : s.drainLaw) (l : LaneNo) (x : Sense) : (laneEdge l x s).drainLaw :=
  State.drainLaw.takeSense_keeps ((h.edgeStart_keeps _).frame (by rfl) (by rfl)) l x

theorem State.drainLaw.xstopChange_keeps (h : s.drainLaw) (d : EdgeDir) : (xstopChange d s).drainLaw :=
  State.drainLaw.takeXstop_keeps ((h.edgeStart_keeps _).frame (by rfl) (by rfl)) d

theorem State.drainLaw.takeRateExpiry_keeps (h : s.drainLaw) : (takeRateExpiry s).drainLaw := by
  unfold takeRateExpiry
  split
  · exact h.takeDueAdvance_keeps
  · exact h

theorem State.drainLaw.countRate_keeps (h : s.drainLaw) : (countRate s).drainLaw := by
  unfold countRate
  split
  · split <;> exact h
  · exact h

theorem State.drainLaw.sampleLanes_keeps (h : s.drainLaw) (sns : Vector Level 4) : (sampleLanes sns s).drainLaw :=
  h.forLanes_keeps fun _ _ ha => ha

theorem State.drainLaw.tickNow_keeps (h : s.drainLaw) (pins : PinSamples) (late : BitVec 8) : (tickNow pins late s).drainLaw := by
  have hs : (sampleXstop pins.xstop (sampleEncoder pins.enc { s with divCount := s.timebase.divider })).drainLaw := h
  refine (hs.sampleLanes_keeps pins.sns).countRate_keeps.forStations_keeps fun n a ha => ?_
  simp only
  split
  · exact ha
  · exact ha.engineTick_keeps n

/-! ### Promotion (R71, R142) -/

/-- The record that leaves the backlog is RETIRED, so every live record stays. -/
theorem State.drainLaw.promote_keeps {P : ItemRecord → Prop} (h : s.drainLaw) (hc : s.Filed P) : (promote s).drainLaw := by
  unfold promote
  split
  · exact h
  next u rest hb =>
    split
    · split
      · exact h
      · refine h.congr id ?_
        rintro ⟨x, hx, hl⟩
        have hne : x.tag ≠ u := fun e => hc.not_mem_backlog hx hl (by simp [hb, e])
        exact ⟨x, mem_freeSlot.2 ⟨hx, hne⟩, hl⟩
    · exact h

/-! ### The commands -/

/-- START leaves the line in RUN, or as it was. -/
theorem State.drainLaw.doStart_keeps (h : s.drainLaw) : (doStart s).2.drainLaw := by
  unfold doStart
  split
  · exact h
  · split
    · exact h
    · exact State.drainLaw_of_ne (by simp)

theorem State.drainLaw.doResume_keeps (h : s.drainLaw) : (doResume s).2.drainLaw := by
  unfold doResume
  split
  · exact h
  · split
    · exact h
    · exact State.drainLaw_of_ne (by simp)

theorem State.drainLaw.doClearLine_keeps (h : s.drainLaw) : (doClearLine s).2.drainLaw := by
  unfold doClearLine
  split
  · exact h
  next hi => exact State.drainLaw_of_ne (by simp [not_not.1 hi])

theorem State.drainLaw.doDrain_keeps (h : s.drainLaw) : (doDrain s).2.drainLaw := by
  by_cases hr : s.run = .run
  · rw [doDrain_taken hr]; exact drainCheck_drainLaw _
  · rw [doDrain_refused hr]; exact h

theorem State.drainLaw.doHalt_keeps (h : s.drainLaw) : (doHalt s).2.drainLaw := by
  obtain ⟨a, ha, hd⟩ : ∃ a, a = settleDue s ∧ a.drainLaw := ⟨_, rfl, h.settleDue_keeps⟩
  cases hr : s.running with
  | false => rw [doHalt_refused hr]; exact h
  | true =>
    cases hra : a.running with
    | false => rw [doHalt_ended hr ha hra]; exact hd
    | true => rw [doHalt_taken hr ha hra]; exact haltEntry_drainLaw .command a

/-- The commands that neither write the run state nor the records. -/
theorem State.drainLaw.settings_keep (h : s.drainLaw) :
    (doSetTimebase s).2.drainLaw ∧ (doSetPosition s).2.drainLaw ∧ (doSetLane s).2.drainLaw ∧ (doSetStation s).2.drainLaw ∧
      (doSetProfile s).2.drainLaw ∧ (doSetFreeThreshold s).2.drainLaw := by
  refine ⟨?_, ?_, ?_, ?_, ?_, ?_⟩
  · unfold doSetTimebase; (repeat' split) <;> exact h
  · unfold doSetPosition; split <;> exact h
  · unfold doSetLane; split <;> exact h
  · unfold doSetStation; simp only; (repeat' split) <;> exact h
  · unfold doSetProfile; split <;> exact h
  · unfold doSetFreeThreshold; split <;> exact h

theorem State.drainLaw.reads_keep (h : s.drainLaw) :
    (doReadLane s).2.drainLaw ∧ (doReadStation s).2.drainLaw ∧ (doReadProfile s).2.drainLaw ∧ (doReadItem s).2.drainLaw ∧
      (doReadTimebase s).2.drainLaw ∧ (doNextDetection s).2.drainLaw := by
  refine ⟨?_, ?_, ?_, ?_, h, ?_⟩
  · unfold doReadLane; split <;> exact h
  · unfold doReadStation; split <;> exact h
  · unfold doReadProfile; split <;> exact h
  · unfold doReadItem; split <;> exact h
  · unfold doNextDetection; (repeat' split) <;> exact h

theorem State.drainLaw.doNextOutcome_keeps {P : ItemRecord → Prop} (h : s.drainLaw) (hc : s.Filed P) :
    (doNextOutcome s).2.drainLaw := by
  unfold doNextOutcome
  split
  · exact h
  · exact State.drainLaw.promote_keeps (P := P) (h.frame (by rfl) (by rfl)) ⟨hc.table, hc.backlog, hc.records⟩

theorem State.drainLaw.doVerdict_keeps (h : s.drainLaw) : (doVerdict s).2.drainLaw := by
  unfold doVerdict
  split
  · exact h
  · split
    next => exact h
    next =>
      unfold verdictPending
      split
      · exact h
      · simp only
        split
        · exact h
        · split
          · exact h
          · split
            · exact h
            · split
              · exact h
              · exact h.place_keeps _ _ _ _
    all_goals exact h

theorem State.drainLaw.doPass_keeps (h : s.drainLaw) : (doPass s).2.drainLaw := by
  unfold doPass
  split
  · exact h
  · split
    next => exact h
    next => exact retireAndCheck_drainLaw _ .passed s
    all_goals exact h

theorem State.drainLaw.doAbort_keeps (h : s.drainLaw) : (doAbort s).2.drainLaw := by
  unfold doAbort
  split
  · exact h
  · split
    next => exact h
    next => exact retireAndCheck_drainLaw _ .aborted s
    next => exact retireAndCheck_drainLaw _ .aborted s
    all_goals exact h

theorem State.drainLaw.commandBody_keeps {P : ItemRecord → Prop} (h : s.drainLaw) (hc : s.Filed P) (c : HostCommand) :
    (commandBody c s).2.drainLaw := by
  obtain ⟨htimebase, hposition, hlane, hstation, hprofile, hthreshold⟩ := h.settings_keep
  obtain ⟨hreadLane, hreadStation, hreadProfile, hreadItem, hreadTimebase, hdetection⟩ := h.reads_keep
  cases c with
  | start => exact h.doStart_keeps
  | drain => exact h.doDrain_keeps
  | halt => exact h.doHalt_keeps
  | resume => exact h.doResume_keeps
  | clearLine => exact h.doClearLine_keeps
  | setTimebase => exact htimebase
  | setPosition => exact hposition
  | setLane => exact hlane
  | setStation => exact hstation
  | setProfile => exact hprofile
  | setFreeThreshold => exact hthreshold
  | readLane => exact hreadLane
  | readStation => exact hreadStation
  | readProfile => exact hreadProfile
  | readItem => exact hreadItem
  | readTimebase => exact hreadTimebase
  | nextDetection => exact hdetection
  | nextOutcome => exact h.doNextOutcome_keeps hc
  | verdict => exact h.doVerdict_keeps
  | pass => exact h.doPass_keeps
  | abort => exact h.doAbort_keeps

/-! ### The rows -/

theorem State.drainLaw.runCommand_keeps (h : s.drainLaw) (hc : s.Coupled ItemRecord.presence) (c : HostCommand) :
    (runCommand c s).drainLaw := by
  unfold runCommand
  split
  · exact h
  · exact (h.finishTick_keeps.commandBody_keeps hc.finishTick_keeps.toFiled c).frame rfl rfl

theorem State.drainLaw.writeCmd_keeps (h : s.drainLaw) (hc : s.Coupled ItemRecord.presence) (b : Byte) :
    (writeCmd b s).drainLaw := by
  unfold writeCmd
  split
  · exact h.runCommand_keeps hc _
  · exact h.event_keeps h

theorem State.drainLaw.clearFlags_keeps (h : s.drainLaw) (b : Byte) : (clearFlags b s).drainLaw :=
  h.access_keeps fun _ => id

theorem State.drainLaw.deliver_keeps (h : s.drainLaw) (hc : s.Coupled ItemRecord.presence) (a : BitVec 6) (b : Byte) :
    (deliver a b s).drainLaw := by
  unfold deliver
  simp only
  split
  · exact h.writeCmd_keeps hc b
  · split
    · exact h
    · split
      · exact h.clearFlags_keeps b
      · split <;> exact h

/-- The reset state is in IDLE (R16, R162). -/
theorem resetState_drainLaw (s : State) : (resetState s).drainLaw := State.drainLaw_of_ne (by simp [resetState, State.reset])

/-- Every row keeps a live record in DRAIN. -/
theorem State.drainLaw.exec_keeps (h : s.drainLaw) (hc : s.Coupled ItemRecord.presence) {c : Instr} (he : exec c s = .next t) :
    t.drainLaw := by
  cases c <;> obtain rfl := Host.Outcome.next.inj he
  case badCommand b => exact h.writeCmd_keeps hc b
  case paramWrite => exact h.event_keeps h
  case irqEnableWrite => exact h.event_keeps h
  case irqFlagsWrite b => exact h.clearFlags_keeps b
  case pos0Read => exact h.access_keeps fun _ => id
  case registerWrite a b y =>
    refine h.event_keeps ?_
    split
    · exact h.deliver_keeps hc a b
    · exact h
  case reset n =>
    split
    · exact (resetState_drainLaw s).frame rfl rfl
    · exact h
  case resetRelease =>
    split
    · exact (resetState_drainLaw s).frame rfl rfl
    · exact h
  case tick pins late => exact h.event_keeps (h.settleAll_keeps.tickNow_keeps pins late)
  case encoderEdge d =>
    exact h.event_keeps (State.drainLaw.takeEncoder_keeps ((h.edgeStart_keeps _).frame (by rfl) (by rfl)) d)
  case rateCountdownExpiry => exact h.event_keeps h.takeRateExpiry_keeps
  case xstopActive => exact h.event_keeps (h.xstopChange_keeps .falling)
  case xstopInactive => exact h.event_keeps (h.xstopChange_keeps .rising)
  case leadEdge l => exact h.event_keeps (h.laneEdge_keeps l .lead)
  case trailingEdge l => exact h.event_keeps (h.laneEdge_keeps l .trailing)
  case jam l => exact h.event_keeps (h.takeJam_keeps l)
  case deadline u => exact h.event_keeps (h.takeDeadline_keeps u)
  case arrival n => exact h.event_keeps (h.takeArrival_keeps n)
  case offPositionReached n => exact h.event_keeps (h.takeOffPosition_keeps n)
  case timePulseEnd n => exact h.event_keeps ((h.takeLateTick_keeps n).takeTimePulseEnd_keeps n)
  case maxOnCut n => exact h.event_keeps ((h.takeLateTick_keeps n).takeMaxOnCut_keeps n)
  case recoveryEnd n => exact h.event_keeps ((h.takeLateTick_keeps n).takeRecoveryEnd_keeps n)
  case guardMarkReached n => exact h.event_keeps (h.takeGuardMark_keeps n)
  case drainCompletion => exact h.event_keeps (drainCheck_drainLaw s)
  case backlogPromotion => exact h.event_keeps (h.promote_keeps hc.toFiled)
  all_goals exact h.runCommand_keeps hc _

theorem State.drainLaw.step_keeps (h : s.drainLaw) (hc : s.Coupled ItemRecord.presence) (hs : step s = .next t) :
    t.drainLaw := by
  unfold step at hs
  split at hs
  · obtain rfl := Host.Outcome.next.inj hs
    rw [idleClock_eq]
    exact h
  · next c rest _ =>
    have h' : ({ s with pending := rest } : State).drainLaw := h
    exact h'.exec_keeps (hc.frame rfl rfl rfl rfl rfl rfl fun _ => id) hs

end

/-- Settles O16: the check follows each event that ends a live record, and a promotion takes a RETIRED record alone. -/
theorem drainLastsOnlyWhileRecordsLive : Obligations.DrainLastsOnlyWhileRecordsLive :=
  fun _ _ hsound h hs => h.step_keeps hsound.coupled hs

end Sys2Proof.Machine
end

section
/-! The commands of the lanes (chapter 3): what SET_LANE accepts, what it makes of a lane in each lane state, and the replies of
READ_LANE and READ_STATION. -/

namespace Sys2Proof.Machine

/-! ### The parameters of SET_LANE (R29) -/

/-- Every check passes: the lane number and the record of the ten fields (R29). -/
theorem laneOf_eq {ps : Params} {l : LaneNo} {ds : StationNo} {dp : ProfileNo} {dq : Priority}
    (h₀ : ps[0].toNat = l.val) (h₁ : ps[1].toNat ≤ 7) (h₂ : 1 ≤ ps[2].toNat) (h₂' : ps[2].toNat ≤ 15)
    (h₃ : 1 ≤ (halfOf ps[3] ps[4]).toNat) (h₅ : (halfOf ps[3] ps[4]).toNat ≤ (halfOf ps[5] ps[6]).toNat)
    (h₇ : (halfOf ps[5] ps[6]).toNat < (halfOf ps[7] ps[8]).toNat) (h₉ : ps[9].toNat = ds.val)
    (h₁₀ : ps[10].toNat = dp.val) (h₁₁ : ps[11].toNat = dq.val) :
    laneOf ps = some (l,
      { enable := ps[1].getLsbD 0, polarity := if ps[1].getLsbD 1 then .activeLow else .activeHigh, depth := ps[2],
        item := { minLength := halfOf ps[3] ps[4], maxLength := halfOf ps[5] ps[6], decisionDistance := halfOf ps[7] ps[8],
                  defaultKind := if ps[1].getLsbD 2 then .eject else .pass,
                  defaultStation := ds, defaultProfile := dp, defaultPriority := dq } }) := by
  have hmin : (halfOf ps[3] ps[4]).toNat ≤ 65535 := by omega
  have hmax : (halfOf ps[5] ps[6]).toNat ≤ 65535 := by omega
  have hdist : (halfOf ps[7] ps[8]).toNat ≤ 65535 := by omega
  simp [laneOf, polarityOf, indexOf_eq h₀, within_eq (Nat.zero_le _) h₁, within_eq h₂ h₂', within_eq h₃ hmin, within_eq h₅ hmax,
    within_eq (Nat.succ_le_of_lt h₇) hdist, indexOf_eq h₉, indexOf_eq h₁₀, indexOf_eq h₁₁]

theorem within_eq_some {w lo hi : Nat} {b c : BitVec w} (h : within lo hi b = some c) :
    c = b ∧ lo ≤ b.toNat ∧ b.toNat ≤ hi := by
  unfold within at h
  split at h
  · next hb => exact ⟨(Option.some.inj h).symm, hb⟩
  · simp at h

theorem indexOf_eq_some {n : Nat} {b : Byte} {k : Fin n} (h : indexOf n b = some k) : b.toNat < n := by
  by_contra hn
  simp [indexOf_none (Nat.le_of_not_lt hn)] at h

/-- A check fails: none (R29). -/
theorem laneOf_none {ps : Params}
    (h : 4 ≤ ps[0].toNat ∨ 7 < ps[1].toNat ∨ ps[2].toNat < 1 ∨ 15 < ps[2].toNat ∨ (halfOf ps[3] ps[4]).toNat < 1 ∨
      (halfOf ps[5] ps[6]).toNat < (halfOf ps[3] ps[4]).toNat ∨ (halfOf ps[7] ps[8]).toNat ≤ (halfOf ps[5] ps[6]).toNat ∨
      8 ≤ ps[9].toNat ∨ 8 ≤ ps[10].toNat ∨ 8 ≤ ps[11].toNat) : laneOf ps = none := by
  refine Option.eq_none_iff_forall_ne_some.2 fun a ha => ?_
  simp only [laneOf, Option.bind_eq_bind, Option.bind_eq_some_iff, Option.pure_def] at ha
  obtain ⟨l, h₀, c, h₁, d, h₂, lo, h₃, hi, h₅, dist, h₇, ds, h₉, dp, h₁₀, dq, h₁₁, -⟩ := ha
  have := indexOf_eq_some h₀
  have := indexOf_eq_some h₉
  have := indexOf_eq_some h₁₀
  have := indexOf_eq_some h₁₁
  obtain ⟨rfl, -, _⟩ := within_eq_some h₁
  obtain ⟨rfl, _, _⟩ := within_eq_some h₂
  obtain ⟨rfl, _, -⟩ := within_eq_some h₃
  obtain ⟨rfl, _, -⟩ := within_eq_some h₅
  obtain ⟨rfl, _, -⟩ := within_eq_some h₇
  omega

theorem doSetLane_taken {s : State} {l : LaneNo} {r : LaneRecord} (h : laneOf s.params = some (l, r)) :
    doSetLane s = (.ok, s.setLane l (((s.lane l).sensorFields r).enableChange r.enable s.run)) := by
  simp [doSetLane, h]

theorem doSetLane_refused {s : State} (h : laneOf s.params = none) : doSetLane s = (.param, s) := by
  simp [doSetLane, h, refuse]

/-! ### The written record on a lane (R31, R32) -/

/-- No object is at an OFF lane: the written sensor fields come into force and the lane stays OFF (R31). -/
theorem Lane.sensorFields_off {x : Lane} (r : LaneRecord) (h : x.state = .off) :
    x.sensorFields r =
      { x with
        record := r, polarity := r.polarity, depth := r.depth, settingsPending := false,
        filter := ⟨x.filter.q, if x.depth = r.depth then x.filter.c else 0⟩ } := by
  simp [Lane.sensorFields, h, Lane.inForce_eq]

/-- In SETTLING and CLEAR the sensor fields come into force, and the level under them chooses the state (R31, R35, log 12). -/
theorem Lane.sensorFields_waiting {x : Lane} (r : LaneRecord) (h : x.state = .settling ∨ x.state = .clear) :
    x.sensorFields r =
      { x with
        record := r, polarity := r.polarity, depth := r.depth, settingsPending := false,
        filter := ⟨x.filter.q, if x.depth = r.depth then x.filter.c else 0⟩,
        state := if x.filter.q = activeLevel r.polarity then .settling else .clear } := by
  obtain h | h := h
  · simp [Lane.sensorFields, h, Lane.inForce_eq, Lane.settleOrClear, Lane.active]
  · by_cases hq : x.filter.q = activeLevel r.polarity <;> simp [Lane.sensorFields, h, Lane.inForce_eq, Lane.active, hq]

/-- While an object is at the sensor, changed sensor fields are deferred (R31). -/
theorem Lane.sensorFields_deferred {x : Lane} (r : LaneRecord)
    (h : x.state = .measuring ∨ x.state = .jammed ∨ x.state = .missing) :
    x.sensorFields r =
      { x with
        record := r, settingsPending := decide (r.polarity ≠ x.polarity) || decide (r.depth ≠ x.depth) } := by
  obtain h | h | h := h <;> simp [Lane.sensorFields, h]

/-- ENABLE on an OFF lane with no deferred fields: in RUN an enabled lane enters SETTLING by its level (R32, R35). -/
theorem Lane.enableChange_off {x : Lane} (b : Bool) (rs : RunState) (h : x.state = .off) (hp : x.settingsPending = false) :
    x.enableChange b rs =
      { x with
        disablePending := false,
        state := if b = true ∧ rs = .run then (if x.filter.q = activeLevel x.polarity then .settling else .clear) else .off } := by
  cases b with
  | false => simp [Lane.enableChange, h]
  | true =>
    by_cases hr : rs = .run
    · simp [Lane.enableChange, h, hr, Lane.enterSettling, Lane.applyPending, hp, Lane.settleOrClear, Lane.active]
    · simp [Lane.enableChange, h, hr]

/-- ENABLE on a lane in SETTLING or CLEAR: a disabled lane goes OFF (R32). -/
theorem Lane.enableChange_waiting {x : Lane} (b : Bool) (rs : RunState) (h : x.state = .settling ∨ x.state = .clear) :
    x.enableChange b rs =
      { x with disablePending := !b && x.disablePending, state := if b = true then x.state else .off } := by
  obtain h | h := h <;> cases b <;> simp [Lane.enableChange, h]

/-- ENABLE while an object is at the sensor: a disabled lane goes OFF when the object leaves (R32). -/
theorem Lane.enableChange_deferred {x : Lane} (b : Bool) (rs : RunState)
    (h : x.state = .measuring ∨ x.state = .jammed ∨ x.state = .missing) :
    x.enableChange b rs = { x with disablePending := !b } := by
  obtain h | h | h := h <;> cases b <;> simp [Lane.enableChange, h]

/-- The lane as an accepted SET_LANE leaves it, from OFF (R31, R32). -/
theorem Lane.written_off {x : Lane} (r : LaneRecord) (rs : RunState) (h : x.state = .off) :
    (x.sensorFields r).enableChange r.enable rs =
      { x with
        record := r, polarity := r.polarity, depth := r.depth, settingsPending := false, disablePending := false,
        filter := ⟨x.filter.q, if x.depth = r.depth then x.filter.c else 0⟩,
        state := if r.enable = true ∧ rs = .run then
            (if x.filter.q = activeLevel r.polarity then .settling else .clear) else .off } := by
  rw [Lane.sensorFields_off r h, Lane.enableChange_off r.enable rs (by exact h) rfl]

/-- The lane as an accepted SET_LANE leaves it, from SETTLING or CLEAR (R31, R32). -/
theorem Lane.written_waiting {x : Lane} (r : LaneRecord) (rs : RunState) (h : x.state = .settling ∨ x.state = .clear) :
    (x.sensorFields r).enableChange r.enable rs =
      { x with
        record := r, polarity := r.polarity, depth := r.depth, settingsPending := false,
        disablePending := !r.enable && x.disablePending,
        filter := ⟨x.filter.q, if x.depth = r.depth then x.filter.c else 0⟩,
        state := if r.enable = true then
            (if x.filter.q = activeLevel r.polarity then .settling else .clear) else .off } := by
  rw [Lane.sensorFields_waiting r h, Lane.enableChange_waiting r.enable rs]
  by_cases hq : x.filter.q = activeLevel r.polarity <;> simp [hq]

/-- The lane as an accepted SET_LANE leaves it while an object is at the sensor (R31, R32). -/
theorem Lane.written_deferred {x : Lane} (r : LaneRecord) (rs : RunState)
    (h : x.state = .measuring ∨ x.state = .jammed ∨ x.state = .missing) :
    (x.sensorFields r).enableChange r.enable rs =
      { x with
        record := r, settingsPending := decide (r.polarity ≠ x.polarity) || decide (r.depth ≠ x.depth),
        disablePending := !r.enable } := by
  rw [Lane.sensorFields_deferred r h, Lane.enableChange_deferred r.enable rs (by exact h)]

/-- The three groups of lane states that R31 and R32 tell apart. -/
theorem Lane.state_groups (x : Lane) :
    x.state = .off ∨ (x.state = .settling ∨ x.state = .clear) ∨ (x.state = .measuring ∨ x.state = .jammed ∨ x.state = .missing) := by
  cases x.state <;> simp

/-- A lane takes the written record whole, in every lane state (R29). -/
theorem Lane.written_record (x : Lane) (r : LaneRecord) (rs : RunState) :
    ((x.sensorFields r).enableChange r.enable rs).record = r := by
  obtain h | h | h := x.state_groups
  · rw [Lane.written_off r rs h]
  · rw [Lane.written_waiting r rs h]
  · rw [Lane.written_deferred r rs h]

/-- Settles O28. -/
theorem setLaneWritesTheWholeRecord : Obligations.SetLaneWritesTheWholeRecord := by
  refine fun s₀ s hreset hs => ⟨fun l ds dp dq h₀ h₁ h₂ h₂' h₃ h₅ h₇ h₉ h₁₀ h₁₁ => ?_, fun hp => ?_⟩
  · exact ⟨_, (s.lane l).written_record _ s.run, exec_command (i := .setLane) (c := .setLane) rfl hreset hs
      (doSetLane_taken (laneOf_eq h₀ h₁ h₂ h₂' h₃ h₅ h₇ h₉ h₁₀ h₁₁))⟩
  · exact exec_command (i := .setLane) (c := .setLane) rfl hreset hs (doSetLane_refused (laneOf_none hp))

/-- Settles O29, by the three groups of lane states. -/
theorem setLaneActsByTheLaneState : Obligations.SetLaneActsByTheLaneState := by
  rintro s₀ s l r x hreset hs hl rfl
  refine ⟨_, exec_command (i := .setLane) (c := .setLane) rfl hreset hs (doSetLane_taken hl), ?_⟩
  obtain h | h | h := (s.lane l).state_groups
  · rw [Lane.written_off r s.run h]
    cases r.enable <;> simp +contextual [h]
  · rw [Lane.written_waiting r s.run h]
    obtain h | h := h <;> simp +contextual [h]
  · rw [Lane.written_deferred r s.run h]
    obtain h | h | h := h <;> simp +contextual [h]

/-! ### READ_LANE and READ_STATION (R47, R101) -/

theorem packed_add (m n : Nat) : packed (m + n) = packed m + packed n := BitVec.ofNat_add m n

theorem packed_bit (k : Nat) (b : Bool) : packed (k * b.toNat) = if b = true then packed k else 0 := by
  cases b <;> simp [packed]

/-- A polarity at its bit of a control byte. -/
theorem packed_polarity (p : Polarity) : packed (2 * p.bit) = if p = .activeLow then 2 else 0 := by cases p <;> rfl

/-- A default kind at its bit of a control byte. -/
theorem packed_defaultKind (k : DefaultKind) : packed (4 * k.bit) = if k = .eject then 4 else 0 := by cases k <;> rfl

theorem laneControl_eq (r : LaneRecord) :
    laneControl r = (if r.enable = true then 1 else 0) + (if r.polarity = .activeLow then 2 else 0) +
      (if r.item.defaultKind = .eject then 4 else 0) := by
  rw [laneControl, packed_add, packed_add, packed_polarity, packed_defaultKind, ← Nat.one_mul r.enable.toNat, packed_bit]
  rfl

theorem stationControl_eq (r : StationRecord) :
    stationControl r = (if r.enable = true then 1 else 0) + (if r.polarity = .activeLow then 2 else 0) := by
  rw [stationControl, packed_add, packed_polarity, ← Nat.one_mul r.enable.toNat, packed_bit]
  rfl

/-- The byte of the lane reply with the two pending flags and the level (R160). -/
theorem laneFlags_eq (x : Lane) :
    packed (x.disablePending.toNat + 2 * x.settingsPending.toNat + 4 * x.active.toNat) =
      (if x.disablePending = true then 1 else 0) + (if x.settingsPending = true then 2 else 0) +
        (if x.filter.q = activeLevel x.polarity then 4 else 0) := by
  rw [packed_add, packed_add, ← Nat.one_mul x.disablePending.toNat, packed_bit, packed_bit, packed_bit]
  simp only [Lane.active, beq_iff_eq]
  rfl

theorem laneReply_eq (l : LaneNo) (x : Lane) :
    laneReply l x = #v[(if x.record.enable then 1 else 0) + (if x.record.polarity = .activeLow then 2 else 0) +
                        (if x.record.item.defaultKind = .eject then 4 else 0),
                      x.record.depth,
                      x.record.item.minLength.extractLsb' 0 8, x.record.item.minLength.extractLsb' 8 8,
                      x.record.item.maxLength.extractLsb' 0 8, x.record.item.maxLength.extractLsb' 8 8,
                      x.record.item.decisionDistance.extractLsb' 0 8, x.record.item.decisionDistance.extractLsb' 8 8,
                      BitVec.ofNat 8 x.record.item.defaultStation.val, BitVec.ofNat 8 x.record.item.defaultProfile.val,
                      BitVec.ofNat 8 x.record.item.defaultPriority.val, x.state.code, x.missed,
                      (if x.disablePending then 1 else 0) + (if x.settingsPending then 2 else 0) +
                        (if x.filter.q = activeLevel x.polarity then 4 else 0),
                      packed l.val, 0] := by
  rw [← laneControl_eq, ← laneFlags_eq]
  rfl

theorem stationReply_eq {x : Station} {mark : Pos} (h : x.guardMark = some mark ∨ (x.guardMark = none ∧ mark = 0)) :
    stationReply x = #v[(if x.record.enable then 1 else 0) + (if x.record.polarity = .activeLow then 2 else 0),
                      BitVec.ofNat 8 x.record.lane.val,
                      x.record.offset.extractLsb' 0 8, x.record.offset.extractLsb' 8 8,
                      x.record.guard.extractLsb' 0 8, x.record.guard.extractLsb' 8 8,
                      x.record.recovery.extractLsb' 0 8, x.record.recovery.extractLsb' 8 8,
                      x.record.maxOn.extractLsb' 0 8, x.record.maxOn.extractLsb' 8 8,
                      x.engine.code, BitVec.ofNat 8 x.list.length, if x.guardMark = none then 0 else 1,
                      mark.extractLsb' 0 8, mark.extractLsb' 8 8, mark.extractLsb' 16 8] := by
  have hmark : x.guardMark.getD 0 = mark := by obtain h | ⟨h, rfl⟩ := h <;> simp [h]
  have hvalid : packed x.guardMark.isSome.toNat = if x.guardMark = none then 0 else 1 := by cases x.guardMark <;> rfl
  rw [← stationControl_eq, ← hvalid, ← hmark]
  rfl

theorem doReadLane_taken {s : State} {l : LaneNo} (h : s.params[0].toNat = l.val) :
    doReadLane s = (.ok, { s with reply := laneReply l (s.lane l) }) := by
  simp [doReadLane, indexOf_eq h]

theorem doReadLane_outOfRange {s : State} (h : 4 ≤ s.params[0].toNat) : doReadLane s = (.param, s) := by
  simp [doReadLane, indexOf_none h, refuse]

theorem doReadStation_taken {s : State} {n : StationNo} (h : s.params[0].toNat = n.val) :
    doReadStation s = (.ok, { s with reply := stationReply (s.station n) }) := by
  simp [doReadStation, indexOf_eq h]

theorem doReadStation_outOfRange {s : State} (h : 8 ≤ s.params[0].toNat) : doReadStation s = (.param, s) := by
  simp [doReadStation, indexOf_none h, refuse]

/-- Settles O30. -/
theorem laneAndStationAreReadBack : Obligations.LaneAndStationAreReadBack := by
  refine fun s₀ s hreset hs => ⟨?_, fun hl => ?_, ?_, fun hn => ?_⟩
  · rintro l x hl rfl
    have hb : s.params[0] = packed l.val := BitVec.eq_of_toNat_eq (by simp [packed, hl]; omega)
    rw [hb, ← laneReply_eq]
    exact exec_command (i := .readLane) (c := .readLane) rfl hreset hs (doReadLane_taken hl)
  · exact exec_command (i := .readLane) (c := .readLane) rfl hreset hs (doReadLane_outOfRange hl)
  · rintro n x mark hn rfl hmark
    rw [← stationReply_eq hmark]
    exact exec_command (i := .readStation) (c := .readStation) rfl hreset hs (doReadStation_taken hn)
  · exact exec_command (i := .readStation) (c := .readStation) rfl hreset hs (doReadStation_outOfRange hn)

end Sys2Proof.Machine
end

section
/-! The sensor edges and the jam of a lane (chapter 3): what a lead edge, a trailing edge and a jam do in each lane state, and the
tag that an allocation gives. -/

namespace Sys2Proof.Machine

section
variable {s : State} {l : LaneNo}

/-! ### An edge row of a lane (log 3) -/

@[simp] theorem setLane_setLane (s : State) (l : LaneNo) (x y : Lane) : (s.setLane l x).setLane l y = s.setLane l y := by
  simp [State.setLane]

/-- An edge row comes after what the last tick has made, or takes the edge of that tick; the lane then takes the edge with its
filter at the level the edge leads to (log 3). -/
theorem laneEdge_eq {sense : Sense} {s₀ : State}
    (hs : s = if (s₀.lane l).edge = some (edgeTo (senseLevel (s₀.lane l).polarity sense)) then s₀ else finishTick s₀) :
    laneEdge l sense s₀ = takeSense l sense
      (s.setLane l { s.lane l with filter := filterAt (s.lane l).filter (senseLevel (s.lane l).polarity sense), edge := none }) := by
  rw [laneEdge, State.laneWaits, edgeStart_eq, ← hs]

theorem exec_leadEdge {s₀ : State} (hreset : s₀.inReset = false)
    (hs : s = if (s₀.lane l).edge = some (edgeTo (activeLevel (s₀.lane l).polarity)) then s₀ else finishTick s₀) :
    exec (.leadEdge l) s₀ = .next (takeLead l
      (s.setLane l { s.lane l with filter := filterAt (s.lane l).filter (activeLevel (s.lane l).polarity), edge := none })) :=
  congrArg _ ((event_taken hreset).trans (laneEdge_eq (sense := .lead) hs))

theorem exec_trailingEdge {s₀ : State} (hreset : s₀.inReset = false)
    (hs : s = if (s₀.lane l).edge = some (edgeTo (inactiveLevel (s₀.lane l).polarity)) then s₀ else finishTick s₀) :
    exec (.trailingEdge l) s₀ = .next (takeTrailing l
      (s.setLane l { s.lane l with filter := filterAt (s.lane l).filter (inactiveLevel (s.lane l).polarity), edge := none })) :=
  congrArg _ ((event_taken hreset).trans (laneEdge_eq (sense := .trailing) hs))

theorem exec_jam (hreset : s.inReset = false) : exec (.jam l) s = .next (takeJam l s) := congrArg _ (event_taken hreset)

/-! ### The tag of an allocation (R55) -/

/-- The search stops at the first tag that is not held, or runs out. -/
theorem findTag_spec (items : List ItemRecord) (tc : Byte) (fuel : Nat) :
    ∃ j, findTag items tc fuel = tc + BitVec.ofNat 8 j ∧ j ≤ fuel ∧ ∀ i < j, tc + BitVec.ofNat 8 i ∈ items.map ItemRecord.tag := by
  induction fuel generalizing tc with
  | zero => exact ⟨0, by simp [findTag], Nat.le_refl 0, by simp⟩
  | succ fuel ih =>
    unfold findTag
    split
    next hany =>
      obtain ⟨j, hj, hle, hheld⟩ := ih (tc + 1)
      have hnext : ∀ i, tc + 1 + BitVec.ofNat 8 i = tc + BitVec.ofNat 8 (i + 1) := fun i => by
        rw [Nat.add_comm i, BitVec.ofNat_add, ← BitVec.add_assoc]; rfl
      refine ⟨j + 1, hj.trans (hnext j), by omega, fun i hi => ?_⟩
      cases i with
      | zero => simpa using hany
      | succ i => exact hnext i ▸ hheld i (by omega)
    next => exact ⟨0, by simp, Nat.zero_le _, by simp⟩

/-- A run of held tags is no longer than the table, since its tags differ. -/
theorem heldRun_le {items : List ItemRecord} {tc : Byte} {j : Nat} (hj : j ≤ 256)
    (hheld : ∀ i < j, tc + BitVec.ofNat 8 i ∈ items.map ItemRecord.tag) : j ≤ items.length := by
  have hsub : (List.range j).map (fun i => tc + BitVec.ofNat 8 i) ⊆ items.map ItemRecord.tag := by
    intro t ht
    obtain ⟨i, hi, rfl⟩ := List.mem_map.1 ht
    exact hheld i (List.mem_range.1 hi)
  have hnodup : ((List.range j).map (fun i => tc + BitVec.ofNat 8 i)).Nodup := by
    refine List.Nodup.map_on (fun a ha b hb hab => ?_) List.nodup_range
    have := List.mem_range.1 ha
    have := List.mem_range.1 hb
    bv_omega
  simpa using (List.subperm_of_subset hnodup hsub).length_le

/-- With a free slot, the next tag is the first from TC upward that no record holds (R55). -/
theorem nextTag_spec (h : s.items.length < 32) :
    ∃ j < 32, s.nextTag = s.tc + BitVec.ofNat 8 j ∧ (∀ r ∈ s.items, r.tag ≠ s.nextTag) ∧
      ∀ i < j, ∃ r ∈ s.items, r.tag = s.tc + BitVec.ofNat 8 i := by
  obtain ⟨j, hj, hle, hheld⟩ := findTag_spec s.items s.tc 256
  refine ⟨j, ?_, hj, nextTag_fresh (by omega), fun i hi => List.mem_map.1 (hheld i hi)⟩
  exact Nat.lt_of_le_of_lt (heldRun_le hle hheld) h

/-! ### A lead edge (R36, R37, R39) -/

theorem allocate_eq (l : LaneNo) (s : State) :
    allocate l s =
      { s with
        items := s.items ++ [newRecord s.nextTag l s.p (s.lane l).record.item], tc := s.nextTag + 1,
        freeLow := s.freeLow || decide (32 - (s.items.length + 1) < s.freeThreshold.toNat) } := by
  simp [allocate, State.freeBelow, State.freeCount, Config.tableSlots]

theorem takeLead_starts (hc : (s.lane l).state = .clear) (hr : s.run = .run) (hlen : s.items.length < 32) :
    takeLead l s = (allocate l s).setLane l
      { s.lane l with
        state := .measuring, measurement := some { tag := s.nextTag, jam := jamPosition s.p (s.lane l).record.item.maxLength } } := by
  simp [takeLead, hc, hr, State.freeCount, Config.tableSlots, hlen]

theorem takeLead_missed (hc : (s.lane l).state = .clear) (hr : s.run = .run) (hlen : s.items.length = 32) :
    takeLead l s =
      { s.setLane l { s.lane l with state := .missing, missed := missedInc (s.lane l).missed } with laneAlert := true } := by
  simp [takeLead, hc, hr, State.freeCount, Config.tableSlots, hlen]

theorem takeLead_ignored (h : (s.lane l).state ≠ .clear ∨ s.run ≠ .run) : takeLead l s = s := by
  obtain h | h := h <;> simp [takeLead, h]

theorem missedInc_eq (c : Byte) : missedInc c = if c = 255 then 255 else c + 1 := by
  unfold missedInc
  split
  · next h => exact h
  · rfl

/-! ### A jam (R42) -/

theorem jamDue_eq {m : Measurement} (hs : (s.lane l).state = .measuring) (hm : (s.lane l).measurement = some m)
    (hj : m.jam = s.p) : s.jamDue l = some m.tag := by
  simp [State.jamDue, hs, hm, hj]

theorem jamDue_none (h : (s.lane l).state ≠ .measuring ∨ ∀ m, (s.lane l).measurement = some m → m.jam ≠ s.p) :
    s.jamDue l = none := by
  unfold State.jamDue
  split
  next m hs hm =>
    obtain h | h := h
    · exact absurd hs h
    · simp [h m hm]
  next => rfl

theorem takeJam_due {t : Byte} (h : s.jamDue l = some t) :
    takeJam l s = drainCheck
      { (retire t .overlength s).setLane l { s.lane l with state := .jammed, measurement := none } with laneAlert := true } := by
  simp [takeJam, h]

/-! ### A trailing edge (R33, R35, R40, R41, R44, R45) -/

/-- Where no jam is due, a trailing edge is taken by the lane state alone (R40). -/
theorem takeTrailing_eq (h : (s.lane l).state ≠ .measuring ∨ ∀ m, (s.lane l).measurement = some m → m.jam ≠ s.p) :
    takeTrailing l s = takeTrailingNow l s := by
  rw [takeTrailing, takeJam_notDue (jamDue_none h)]

theorem takeTrailing_ignored (h : (s.lane l).state = .off ∨ (s.lane l).state = .clear) : takeTrailing l s = s := by
  rw [takeTrailing_eq]
  all_goals obtain h | h := h <;> simp [takeTrailingNow, h]

theorem takeTrailing_settled (h : (s.lane l).state = .settling) :
    takeTrailing l s = s.setLane l { s.lane l with state := .clear } := by
  rw [takeTrailing_eq (by simp [h])]
  simp [takeTrailingNow, h]

theorem takeTrailing_returns (h : (s.lane l).state = .jammed ∨ (s.lane l).state = .missing) :
    takeTrailing l s = s.setLane l (s.lane l).return := by
  rw [takeTrailing_eq]
  all_goals obtain h | h := h <;> simp [takeTrailingNow, h]

theorem takeTrailing_measured {m : Measurement} (hs : (s.lane l).state = .measuring) (hm : (s.lane l).measurement = some m)
    (hj : m.jam ≠ s.p) : takeTrailing l s = endMeasurement l m.tag s := by
  rw [takeTrailing_eq (by simp [hm, hj])]
  simp [takeTrailingNow, hs, hm]

/-- A length that 16 bits hold is the measured length (R40). -/
theorem measuredLength_eq {p lead : Pos} {len : Half} (h : len.toNat = (p - lead).toNat) : measuredLength p lead = len :=
  BitVec.eq_of_toNat_eq (by rw [measuredLength, BitVec.toNat_setWidth, ← h, Nat.mod_eq_of_lt len.isLt])

/-- The end of a measurement that is long enough (R40). -/
theorem endMeasurement_kept {t : Byte} {r : ItemRecord} {len : Half} (hr : s.liveRecord t = some r) (hs : r.state = .measuring)
    (hl : measuredLength s.p r.lead = len) (hle : r.snapshot.minLength.toNat ≤ len.toNat) :
    endMeasurement l t s =
      ({ s.modifyRecord t (fun x => { x with length := some len, state := .pending }) with
        announce := s.announce ++ [t] } : State).setLane l (s.lane l).return := by
  simp only [endMeasurement, hr, hs, hl, Nat.not_lt.2 hle, ne_eq, not_true_eq_false, if_false]
  rfl

/-- The end of a measurement that is too short (R41). -/
theorem endMeasurement_short {t : Byte} {r : ItemRecord} {len : Half} (hr : s.liveRecord t = some r) (hs : r.state = .measuring)
    (hl : measuredLength s.p r.lead = len) (hlt : len.toNat < r.snapshot.minLength.toNat) :
    endMeasurement l t s = drainCheck ((s.freeSlot t).setLane l (s.lane l).return) := by
  simp only [endMeasurement, hr, hs, hl, hlt, ne_eq, not_true_eq_false, if_false, if_true]
  rfl

/-- The record that a measurement names is MEASURING, and found by its tag (R28). -/
theorem State.Sound.measured_record (h : s.Sound) {m : Measurement} {r : ItemRecord} (hm : (s.lane l).measurement = some m)
    (hr : r ∈ s.items) (ht : r.tag = m.tag) : r.state = .measuring ∧ s.liveRecord m.tag = some r := by
  obtain ⟨x, hx, hxt, hxs, -⟩ := h.coupled.measured hm
  obtain rfl : x = r := h.table.tag_inj hr hx (hxt.trans ht.symm)
  exact ⟨hxs, ht ▸ h.table.liveRecord_eq hr (by simp [ItemRecord.isLive, hxs])⟩

/-! ### The return of a lane (R33) -/

theorem Lane.return_disabled {x : Lane} (h : x.disablePending = true) :
    x.return = { x with measurement := none, state := .off, disablePending := false } := by
  simp [Lane.return, h]

theorem Lane.return_deferred {x : Lane} (h : x.disablePending = false) (hp : x.settingsPending = true) :
    x.return = { x with
      measurement := none, polarity := x.record.polarity, depth := x.record.depth, settingsPending := false,
      filter := ⟨x.filter.q, if x.depth = x.record.depth then x.filter.c else 0⟩,
      state := if x.filter.q = activeLevel x.record.polarity then .settling else .clear } := by
  simp [Lane.return, h, hp, Lane.inForce_eq, Lane.settleOrClear, Lane.active]

theorem Lane.return_clear {x : Lane} (h : x.disablePending = false) (hp : x.settingsPending = false) :
    x.return = { x with measurement := none, state := .clear } := by
  simp [Lane.return, h, hp]

end

/-- Settles O31. -/
theorem leadEdgeStartsAnItem : Obligations.LeadEdgeStartsAnItem := by
  rintro s₀ s l x f hreset hs - rfl rfl hc hr hlen
  obtain ⟨j, hj, htag, hfresh, hheld⟩ := nextTag_spec hlen
  refine ⟨j, hj, s.nextTag, htag, hfresh, hheld, (exec_leadEdge hreset hs).trans (congrArg _ ?_)⟩
  refine (takeLead_starts (by simpa using hc) (by exact hr) (by exact hlen)).trans ?_
  rw [allocate_eq, lane_setLane_self]
  simp [State.setLane, newRecord, State.nextTag, jamPosition, filterAt]

/-- Settles O32. -/
theorem leadEdgeWithoutASlotIsMissed : Obligations.LeadEdgeWithoutASlotIsMissed := by
  rintro s₀ s l x f hreset hs rfl rfl
  refine ⟨fun hc hr hlen => (exec_leadEdge hreset hs).trans (congrArg _ ?_),
    fun h => (exec_leadEdge hreset hs).trans (congrArg _ ?_)⟩
  · refine (takeLead_missed (by simpa using hc) (by exact hr) (by exact hlen)).trans ?_
    rw [setLane_setLane, lane_setLane_self, missedInc_eq]
    rfl
  · exact takeLead_ignored (by simpa using h)

/-- Settles O33. -/
theorem trailingEdgeEndsTheMeasurement : Obligations.TrailingEdgeEndsTheMeasurement := by
  rintro s₀ s l x y f m r len hreset hs hsound rfl rfl rfl hst hm hr ht hj hlen
  obtain ⟨hrs, hlive⟩ := hsound.measured_record hm hr ht
  have hexec := (exec_trailingEdge hreset hs).trans
    (congrArg _ (takeTrailing_measured (by simpa using hst) (by simpa using hm) hj))
  refine ⟨fun hle => hexec.trans (congrArg _ ?_), fun hlt => hexec.trans (congrArg _ ?_)⟩
  · refine (endMeasurement_kept (by exact hlive) hrs (by exact measuredLength_eq hlen) hle).trans ?_
    rw [lane_setLane_self]
    simp [State.setLane, State.modifyRecord, filterAt]
  · refine (endMeasurement_short (by exact hlive) hrs (by exact measuredLength_eq hlen) hlt).trans ?_
    rw [lane_setLane_self]
    simp [State.setLane, State.freeSlot, filterAt]

/-- Settles O34. -/
theorem laneReturnsWhenTheObjectLeaves : Obligations.LaneReturnsWhenTheObjectLeaves := by
  refine ⟨fun x => ⟨Lane.return_disabled, Lane.return_deferred, Lane.return_clear⟩, ?_⟩
  rintro s₀ s l x y f hreset hs rfl rfl rfl
  refine ⟨fun h => ?_, fun h => ?_, fun h => ?_⟩ <;> refine (exec_trailingEdge hreset hs).trans (congrArg _ ?_)
  · rw [takeTrailing_settled (by simpa using h), setLane_setLane, lane_setLane_self]
    rfl
  · rw [takeTrailing_returns (by simpa using h), setLane_setLane, lane_setLane_self]
    rfl
  · exact takeTrailing_ignored (by simpa using h)

/-- Settles O35. -/
theorem jamRetiresTheItemOverlength : Obligations.JamRetiresTheItemOverlength := by
  refine fun s l hreset => ⟨fun m hs hm hj => (exec_jam hreset).trans (congrArg _ ?_), fun h => ?_⟩
  · rw [takeJam_due (jamDue_eq hs hm hj), State.setLane, retire_lanes]
  · exact (exec_jam hreset).trans (congrArg _ (takeJam_notDue (jamDue_none h)))

end Sys2Proof.Machine
end

section
/-! The retirement as one update of the state (R69, R70, R137, R140). -/

namespace Sys2Proof.Machine

section
variable {s : State} {t : Byte} {r : ItemRecord}

/-- The stations after the order of `r` has left its list: the station of its VERDICT without it, when `r` is COMMITTED. -/
def State.unlisted (s : State) (r : ItemRecord) (n : StationNo) : Station :=
  if r.state = .committed ∧ r.verdict.map Verdict.station = some n then
    { s.station n with list := (s.station n).list.filter (· != r.tag) }
  else s.station n

theorem dropListed_station (s : State) (r : ItemRecord) (n : StationNo) : (s.dropListed r).station n = s.unlisted r n := by
  unfold State.dropListed State.unlisted
  split
  next v hs hv =>
    rw [State.dropOrder, station_setStation, hs, hv]
    by_cases e : n = v.station
    · simp [e]
    · have e' : v.station ≠ n := fun h => e h.symm
      simp [e, e']
  next hne =>
    rw [if_neg]
    rintro ⟨hs, hv⟩
    obtain ⟨v, hv, -⟩ := Option.map_eq_some_iff.1 hv
    exact hne v hs hv

/-- A retirement changes the stations in the one list alone that holds the order (R69). -/
theorem retire_station (h : s.liveRecord t = some r) (c : OutcomeCode) (n : StationNo) :
    (retire t c s).station n = s.unlisted r n := by
  rw [retire_live h]
  exact (congrArg (fun v : Vector Station 8 => v[n.val]) (accept_stations _ r c)).trans (dropListed_station _ r n)

theorem dropListed_eq {sts : Vector Station 8} (h : ∀ n : StationNo, sts[n.val] = s.unlisted r n) :
    s.dropListed r = { s with stations := sts } := by
  have hst : (s.dropListed r).stations = sts := by
    ext i hi
    · exact (dropListed_station s r ⟨i, hi⟩).trans (h ⟨i, hi⟩).symm
  rw [← hst]
  unfold State.dropListed
  split <;> rfl

end

/-- Settles O36. -/
theorem retirementHandsTheRecordOver : Obligations.RetirementHandsTheRecordOver := by
  refine fun s t code => ⟨retire_absent, fun r sts hr hsts => ?_⟩
  obtain ⟨-, rfl, -⟩ := liveRecord_spec hr
  have hdrop : (s.dropAnnounce r.tag).dropListed r =
      { s with announce := s.announce.filter (· != r.tag), stations := sts } := dropListed_eq hsts
  rw [retire_live hr, hdrop]
  refine ⟨fun hroom hb => ?_, fun hfull => ?_⟩
  · have ht : s.queueTakes = true := State.queueTakes_iff.2 ⟨hroom, hb⟩
    exact accept_queued (by exact ht)
  · have ht : s.queueTakes = false := Bool.eq_false_iff.2 fun ht => by
      obtain ⟨hroom, hb⟩ := State.queueTakes_iff.1 ht
      exact hfull.elim (Nat.not_le.2 hroom) fun hne => hne hb
    exact accept_backlogged (by exact ht)

end Sys2Proof.Machine
end

section
/-! One walk for every law of the records, the lists, the outcomes and the engines: what each single event must keep, and that every
row then keeps it. -/

namespace Sys2Proof.Machine

section
variable {s t : State}

/-! ### The parts that these laws read -/

/-- From `s` to `t` the records, the announce list, the station lists with the records and engines of the stations, the
outcomes and the free threshold stay. -/
structure Unmoved (t s : State) : Prop where
  items         : t.items = s.items
  announce      : t.announce = s.announce
  queue         : t.queue = s.queue
  backlog       : t.backlog = s.backlog
  backlogFlag   : t.backlogFlag = s.backlogFlag
  freeThreshold : t.freeThreshold = s.freeThreshold
  list          : ∀ n, (t.station n).list = (s.station n).list
  engine        : ∀ n, (t.station n).engine = (s.station n).engine
  record        : ∀ n, (t.station n).record = (s.station n).record

theorem Unmoved.of_stations (hi : t.items = s.items) (ha : t.announce = s.announce) (hq : t.queue = s.queue)
    (hb : t.backlog = s.backlog) (hf : t.backlogFlag = s.backlogFlag) (hth : t.freeThreshold = s.freeThreshold)
    (hst : t.stations = s.stations) : Unmoved t s := by
  have h : ∀ n, t.station n = s.station n := fun n => by simp [State.station, hst]
  exact ⟨hi, ha, hq, hb, hf, hth, fun n => by rw [h], fun n => by rw [h], fun n => by rw [h]⟩

/-- An event that writes other fields alone. -/
theorem Unmoved.of_other (h : t = { s with
      pending := t.pending, inReset := t.inReset, timebase := t.timebase, divCount := t.divCount, p := t.p, k := t.k,
      encFilter := t.encFilter, advanceDue := t.advanceDue, latchMid := t.latchMid, latchHigh := t.latchHigh, run := t.run,
      haltCause := t.haltCause, xstopFilter := t.xstopFilter, xstopEdge := t.xstopEdge, lanes := t.lanes, tc := t.tc,
      profiles := t.profiles, laneAlert := t.laneAlert, haltEntered := t.haltEntered, drainDone := t.drainDone,
      freeLow := t.freeLow, enables := t.enables, cmd := t.cmd, result := t.result, params := t.params, reply := t.reply,
      readData := t.readData }) : Unmoved t s := by
  rw [h]
  exact .of_stations rfl rfl rfl rfl rfl rfl rfl

theorem drainCheck_unmoved (s : State) : Unmoved (drainCheck s) s :=
  .of_stations (by simp) (by simp) (by simp) (by simp) (by simp) (by simp) (by simp)

/-- A write of one station that keeps its list, its engine and its record. -/
theorem setStation_unmoved {n : StationNo} {x : Station} (hl : x.list = (s.station n).list)
    (he : x.engine = (s.station n).engine) (hr : x.record = (s.station n).record) : Unmoved (s.setStation n x) s := by
  constructor
  case list => intro m; rw [station_setStation]; split <;> simp [*]
  case engine => intro m; rw [station_setStation]; split <;> simp [*]
  case record => intro m; rw [station_setStation]; split <;> simp [*]
  all_goals rfl

theorem takeGuardMark_unmoved (n : StationNo) (s : State) : Unmoved (takeGuardMark n s) s := by
  unfold takeGuardMark
  split
  · exact setStation_unmoved rfl rfl rfl
  · exact .of_other rfl

/-! ### The events -/

/-- The event laws of `I`: with the coupled laws beside it, `I` is kept by each event that moves a record, an order, an outcome or
an engine, and it reads nothing else. -/
structure EventLaw (I : State → Prop) : Prop where
  unmoved : ∀ {t s : State}, Unmoved t s → I s → I t
  reset : I State.reset
  retire : ∀ {s : State} {r : ItemRecord}, s.Coupled ItemRecord.presence → I s → r ∈ s.items → r.state ≠ .retired →
    r.state ≠ .firing → ∀ c, I (retire r.tag c s)
  pulseEnd : ∀ {s : State} {n : StationNo} {q : Pulse}, s.Coupled ItemRecord.presence → I s →
    (s.station n).engine = .on q → ∀ c, I (pulseEnd n q.tag c s)
  recoveryEnd : ∀ {s : State} {n : StationNo} {c : Half}, I s → (s.station n).engine = .recovery c →
    I (s.setStation n { s.station n with engine := .offReady })
  engineTick : ∀ {s : State}, s.Coupled ItemRecord.presence → I s → ∀ n, I (engineTick n s)
  startPulse : ∀ {s : State} {n : StationNo} {u : Byte} {o : Order}, s.Coupled ItemRecord.presence → I s →
    s.arriving n = some (u, o) → (s.station n).engine = .offReady → I (startPulse n u o s)
  collide : ∀ {s : State} {n : StationNo} {u : Byte} {o : Order}, s.Coupled ItemRecord.presence → I s →
    s.arriving n = some (u, o) → I (collide n u s)
  defaultEject : ∀ {s : State} {r : ItemRecord}, s.Coupled ItemRecord.presence → I s → r ∈ s.items →
    r.state = .pending → I (defaultEject r s)
  place : ∀ {s : State} {r : ItemRecord} {v : Verdict} {on : Pos} {tags : List Byte}, s.Coupled ItemRecord.presence →
    I s → r ∈ s.items → r.state = .pending → (s.station v.station).record.enable = true →
    s.arbitrate r.tag v on = some tags → ∀ o, I (place r.tag v o tags s)
  allocate : ∀ {s : State}, s.Coupled ItemRecord.presence → I s → s.items.length < 32 → ∀ l, I (allocate l s)
  discard : ∀ {s : State} {r : ItemRecord}, s.Coupled ItemRecord.presence → I s → r ∈ s.items → r.state = .measuring →
    I (s.freeSlot r.tag)
  announce : ∀ {s : State} {r : ItemRecord}, s.Coupled ItemRecord.presence → I s → r ∈ s.items → r.state = .measuring →
    ∀ len, I { s.modifyRecord r.tag (fun x => { x with length := some len, state := .pending }) with
      announce := s.announce ++ [r.tag] }
  haltEntry : ∀ {s : State}, s.Coupled ItemRecord.presence → I s → ∀ cause, I (haltEntry cause s)
  promote : ∀ {s : State}, s.Coupled ItemRecord.presence → I s → I (promote s)
  nextOutcome : ∀ {s : State}, s.Coupled ItemRecord.presence → I s → I (doNextOutcome s).2
  nextDetection : ∀ {s : State}, I s → I (doNextDetection s).2
  clearLine : ∀ {s : State}, I s → I (doClearLine s).2
  setStation : ∀ {s : State}, I s → I (doSetStation s).2
  setFreeThreshold : ∀ {s : State}, I s → I (doSetFreeThreshold s).2
  writeFlags : ∀ {s : State}, I s → ∀ b, I (writeFlags b s)

/-- The coupled laws and `I` together. -/
structure State.Holds (I : State → Prop) (s : State) : Prop extends State.Coupled ItemRecord.presence s where
  law : I s

end

section
variable {I : State → Prop} {s t : State}

/-! ### Stations and engines -/

theorem State.Holds.drainCheck (h : s.Holds I) (e : EventLaw I) : (drainCheck s).Holds I :=
  ⟨h.toCoupled.drainCheck_keeps, e.unmoved (drainCheck_unmoved s) h.law⟩

theorem State.Holds.takeGuardMark (h : s.Holds I) (e : EventLaw I) (n : StationNo) : (takeGuardMark n s).Holds I :=
  ⟨h.takeGuardMark_keeps n, e.unmoved (takeGuardMark_unmoved n s) h.law⟩

theorem State.Holds.takeTimePulseEnd (h : s.Holds I) (e : EventLaw I) (n : StationNo) : (takeTimePulseEnd n s).Holds I := by
  refine ⟨h.takeTimePulseEnd_keeps n, ?_⟩
  obtain he | ⟨q, c, hq, he⟩ := takeTimePulseEnd_cases n s <;> rw [he]
  · exact h.law
  · exact e.pulseEnd h.toCoupled h.law hq c

theorem State.Holds.takeMaxOnCut (h : s.Holds I) (e : EventLaw I) (n : StationNo) : (takeMaxOnCut n s).Holds I := by
  refine ⟨h.takeMaxOnCut_keeps n, ?_⟩
  obtain he | ⟨q, hq, he⟩ := takeMaxOnCut_cases n s <;> rw [he]
  · exact h.law
  · exact e.pulseEnd h.toCoupled h.law hq .firedCut

theorem State.Holds.takeOffPosition (h : s.Holds I) (e : EventLaw I) (n : StationNo) : (takeOffPosition n s).Holds I := by
  refine ⟨h.takeOffPosition_keeps n, ?_⟩
  obtain he | ⟨q, c, hq, he⟩ := takeOffPosition_cases n s <;> rw [he]
  · exact h.law
  · exact e.pulseEnd h.toCoupled h.law hq c

theorem State.Holds.takeRecoveryEnd (h : s.Holds I) (e : EventLaw I) (n : StationNo) : (takeRecoveryEnd n s).Holds I := by
  refine ⟨h.takeRecoveryEnd_keeps n, ?_⟩
  unfold Machine.takeRecoveryEnd
  split
  next c hc =>
    split
    · exact e.recoveryEnd h.law hc
    · exact h.law
  next => exact h.law

theorem State.Holds.engineTick (h : s.Holds I) (e : EventLaw I) (n : StationNo) : (engineTick n s).Holds I :=
  ⟨h.engineTick_keeps n, e.engineTick h.toCoupled h.law n⟩

/-- Whether an engine has a tick still to take is no part of the laws (log 4). -/
theorem State.Holds.setLate (h : s.Holds I) (e : EventLaw I) (n : StationNo) (late : Bool) :
    (s.setStation n { s.station n with tickLate := late }).Holds I :=
  ⟨h.setStation_keeps n _ fun q hq => ⟨q, hq, rfl⟩, e.unmoved (setStation_unmoved rfl rfl rfl) h.law⟩

theorem State.Holds.takeLateTick (h : s.Holds I) (e : EventLaw I) (n : StationNo) : (takeLateTick n s).Holds I := by
  unfold Machine.takeLateTick
  split
  · exact (h.setLate e n false).engineTick e n
  · exact h

theorem State.Holds.takeArrival (h : s.Holds I) (e : EventLaw I) (n : StationNo) : (takeArrival n s).Holds I := by
  refine ⟨h.takeArrival_keeps n, ?_⟩
  obtain he | ⟨u, o, ha, hoff, he⟩ | ⟨u, o, ha, he⟩ := takeArrival_cases n s <;> rw [he]
  · exact h.law
  · exact e.startPulse h.toCoupled h.law ha hoff
  · exact e.collide h.toCoupled h.law ha

/-! ### Records -/

theorem State.Holds.retirePending (h : s.Holds I) (e : EventLaw I) {r : ItemRecord} (hr : r ∈ s.items)
    (hs : r.state = .pending ∨ r.state = .committed) (c : OutcomeCode) : (retireAndCheck r.tag c s).Holds I := by
  refine ⟨h.retirePending_keeps hr hs c, e.unmoved (drainCheck_unmoved _) (e.retire h.toCoupled h.law hr ?_ ?_ c)⟩ <;>
  · obtain hs | hs := hs <;> simp [hs]

theorem State.Holds.takeDeadline (h : s.Holds I) (e : EventLaw I) (u : Byte) : (takeDeadline u s).Holds I := by
  unfold Machine.takeDeadline
  split
  · exact h
  next r hf =>
    obtain ⟨hr, rfl, -⟩ := liveRecord_spec hf
    split
    next hs =>
      split
      · exact h.retirePending e hr (.inl hs.1) .defaultPassed
      · exact ⟨h.defaultEject_keeps hr hs.1, e.defaultEject h.toCoupled h.law hr hs.1⟩
    next => exact h

/-! ### Lanes -/

/-- A lane is no part of the laws of `I`. -/
theorem EventLaw.setLane (e : EventLaw I) (h : I s) (l : LaneNo) (x : Lane) : I (s.setLane l x) := e.unmoved (.of_other rfl) h

theorem State.Holds.takeJam (h : s.Holds I) (e : EventLaw I) (l : LaneNo) : (takeJam l s).Holds I := by
  refine ⟨h.takeJam_keeps l, ?_⟩
  cases hj : s.jamDue l with
  | none => rw [takeJam_notDue hj]; exact h.law
  | some u =>
    obtain ⟨m, hm, -, rfl⟩ := jamDue_some hj
    obtain ⟨r, hr, hrt, hrs, -⟩ := h.measured hm
    have hret := e.retire h.toCoupled h.law hr (by simp [hrs]) (by simp [hrs]) .overlength
    rw [takeJam_due hj, ← hrt]
    refine e.unmoved (drainCheck_unmoved _) (e.unmoved ?_ hret)
    exact .of_other rfl

theorem State.Holds.takeLead (h : s.Holds I) (e : EventLaw I) (l : LaneNo) : (takeLead l s).Holds I := by
  refine ⟨h.takeLead_keeps l, ?_⟩
  unfold Machine.takeLead
  simp only
  split
  · split
    next hfree =>
      have hlen : s.items.length < 32 := by simpa [State.freeCount, Config.tableSlots] using hfree
      exact e.setLane (e.allocate h.toCoupled h.law hlen l) l _
    next => exact e.unmoved (s := s) (.of_other rfl) h.law
  · exact h.law

/-- The end of a measurement leaves a PENDING record, or discards a short one (R40, R41). -/
theorem EventLaw.endMeasurement (e : EventLaw I) (h : s.Holds I) {l : LaneNo} {m : Measurement}
    (hm : (s.lane l).measurement = some m) : I (endMeasurement l m.tag s) := by
  obtain ⟨r, hr, hrt, hrs, -⟩ := h.measured hm
  unfold Machine.endMeasurement
  simp only
  rw [← hrt, h.table.liveRecord_eq hr (ItemRecord.isLive_iff.2 (by simp [hrs]))]
  simp only [hrs, ne_eq, not_true_eq_false, if_false]
  split
  · exact e.unmoved (drainCheck_unmoved _) (e.setLane (e.discard h.toCoupled h.law hr hrs) l _)
  · exact e.setLane (e.announce h.toCoupled h.law hr hrs _) l _

theorem State.Holds.takeTrailing (h : s.Holds I) (e : EventLaw I) (l : LaneNo) : (takeTrailing l s).Holds I := by
  have hj := h.takeJam e l
  refine ⟨h.takeTrailing_keeps l, ?_⟩
  unfold Machine.takeTrailing Machine.takeTrailingNow
  simp only
  split
  · exact hj.law
  · exact hj.law
  · exact e.setLane hj.law l _
  · exact e.setLane hj.law l _
  · exact e.setLane hj.law l _
  · split
    next m hm => exact e.endMeasurement hj hm
    next => exact e.setLane hj.law l _

theorem State.Holds.takeSense (h : s.Holds I) (e : EventLaw I) (l : LaneNo) (x : Sense) : (takeSense l x s).Holds I := by
  cases x with
  | lead => exact h.takeLead e l
  | trailing => exact h.takeTrailing e l

/-- The edge or the filter of a lane is no part of any of the laws. -/
theorem State.Holds.setEdge (h : s.Holds I) (e : EventLaw I) (l : LaneNo) (filter : Filter) (edge : Option EdgeDir) :
    (s.setLane l { s.lane l with filter, edge }).Holds I :=
  ⟨h.setLane_keeps l _ rfl .rfl fun _ => id, e.setLane h.law l _⟩

theorem State.Holds.flushLane (h : s.Holds I) (e : EventLaw I) (l : LaneNo) : (flushLane l s).Holds I := by
  unfold Machine.flushLane
  split
  · exact h
  · exact (h.setEdge e l (s.lane l).filter none).takeSense e l _

/-! ### Settling, the advance and XSTOP (log 2) -/

theorem foldl_holds {β : Type} {f : State → β → State} (hf : ∀ a b, a.Holds I → (f a b).Holds I) (xs : List β)
    (h : s.Holds I) : (xs.foldl f s).Holds I :=
  List.foldlRecOn xs f h fun a ha b _ => hf a b ha

theorem State.Holds.forStations {f : StationNo → State → State} (hf : ∀ n a, a.Holds I → (f n a).Holds I)
    (h : s.Holds I) : (forStations f s).Holds I := foldl_holds (fun a n => hf n a) allStations h

theorem State.Holds.forLanes {f : LaneNo → State → State} (hf : ∀ l a, a.Holds I → (f l a).Holds I)
    (h : s.Holds I) : (forLanes f s).Holds I := foldl_holds (fun a l => hf l a) allLanes h

theorem State.Holds.settleReached (h : s.Holds I) (e : EventLaw I) : (settleReached s).Holds I := by
  refine foldl_holds (fun a u ha => ha.takeDeadline e u) _ ?_
  exact (((h.forStations fun n _ ha => ha.takeGuardMark e n).forStations fun n _ ha => ha.takeOffPosition e n).forStations
    fun n _ ha => ha.takeArrival e n).forLanes fun l _ ha => ha.takeJam e l

theorem State.Holds.settleEngines (h : s.Holds I) (e : EventLaw I) : (settleEngines s).Holds I :=
  ((h.forStations fun n _ ha => ha.takeTimePulseEnd e n).forStations fun n _ ha => ha.takeMaxOnCut e n).forStations
    fun n _ ha => ha.takeRecoveryEnd e n

theorem State.Holds.settleDue (h : s.Holds I) (e : EventLaw I) : (settleDue s).Holds I := (h.settleEngines e).settleReached e

theorem State.Holds.advance (h : s.Holds I) (e : EventLaw I) : (advance s).Holds I := by
  refine ⟨h.advance_keeps, ?_⟩
  have hcount : ∀ a : State, Unmoved { a with p := a.p + 1 } a := fun _ => .of_other rfl
  have hs := (h.settleReached e).law
  cases hr : (Machine.settleReached s).running with
  | true => rw [advance_running rfl hr]; exact e.unmoved (hcount _) hs
  | false => rw [advance_resting rfl hr]; exact hs

theorem State.Holds.dropAdvance (h : s.Holds I) (e : EventLaw I) : ({ s with advanceDue := false } : State).Holds I :=
  ⟨h.dropAdvance_keeps, e.unmoved (.of_other rfl) h.law⟩

theorem State.Holds.takeDueAdvance (h : s.Holds I) (e : EventLaw I) : (takeDueAdvance s).Holds I := by
  unfold Machine.takeDueAdvance
  split
  · simp only
    split
    · exact (h.dropAdvance e).advance e
    · exact h.dropAdvance e
  · exact h

theorem State.Holds.haltEntry (h : s.Holds I) (e : EventLaw I) (cause : HaltCause) : (haltEntry cause s).Holds I :=
  ⟨h.haltEntry_coupled cause, e.haltEntry h.toCoupled h.law cause⟩

theorem State.Holds.takeXstop (h : s.Holds I) (e : EventLaw I) (d : EdgeDir) : (takeXstop d s).Holds I := by
  cases d with
  | rising => exact h
  | falling =>
    simp only [Machine.takeXstop]
    split
    · split
      · exact (h.settleDue e).haltEntry e .xstop
      · exact h.settleDue e
    · exact h

/-- The level and the change of XSTOP are no part of the laws. -/
theorem State.Holds.setXstop (h : s.Holds I) (e : EventLaw I) (filter : Filter) (edge : Option EdgeDir) :
    ({ s with xstopFilter := filter, xstopEdge := edge } : State).Holds I :=
  ⟨h.frame rfl rfl rfl rfl rfl rfl fun _ => id, e.unmoved (.of_other rfl) h.law⟩

theorem State.Holds.flushXstop (h : s.Holds I) (e : EventLaw I) : (flushXstop s).Holds I := by
  unfold Machine.flushXstop
  split
  · exact h
  · exact (h.setXstop e s.xstopFilter none).takeXstop e _

theorem State.Holds.finishTick (h : s.Holds I) (e : EventLaw I) : (finishTick s).Holds I :=
  (((h.settleEngines e).takeDueAdvance e).forLanes fun l _ ha => ha.flushLane e l).flushXstop e

theorem State.Holds.settleAll (h : s.Holds I) (e : EventLaw I) : (settleAll s).Holds I :=
  ((((((h.settleDue e).takeDueAdvance e).settleReached e).forStations fun n _ ha => ha.takeLateTick e n).settleEngines e).forLanes
    fun l _ ha => ha.flushLane e l).flushXstop e

/-! ### The tick and the edges -/

theorem State.Holds.sampleEncoder (h : s.Holds I) (e : EventLaw I) (x : Level) : (sampleEncoder x s).Holds I :=
  ⟨h.sampleEncoder_keeps x, e.unmoved (s := s) (.of_other rfl) h.law⟩

theorem State.Holds.countRate (h : s.Holds I) (e : EventLaw I) : (countRate s).Holds I := by
  refine ⟨h.countRate_keeps, ?_⟩
  unfold Machine.countRate
  split
  · split <;> exact e.unmoved (s := s) (.of_other rfl) h.law
  · exact h.law

theorem State.Holds.tickNow (h : s.Holds I) (e : EventLaw I) (pins : PinSamples) (late : BitVec 8) :
    (tickNow pins late s).Holds I := by
  have h₀ : ({ s with divCount := s.timebase.divider } : State).Holds I :=
    ⟨h.frame rfl rfl rfl rfl rfl rfl fun _ => id, e.unmoved (.of_other rfl) h.law⟩
  have h₁ : (sampleXstop pins.xstop (Machine.sampleEncoder pins.enc { s with divCount := s.timebase.divider })).Holds I :=
    (h₀.sampleEncoder e pins.enc).setXstop e _ _
  have h₂ : (sampleLanes pins.sns (sampleXstop pins.xstop
      (Machine.sampleEncoder pins.enc { s with divCount := s.timebase.divider }))).Holds I :=
    h₁.forLanes fun l _ ha => ha.setEdge e l _ _
  unfold Machine.tickNow tickEngines
  refine (h₂.countRate e).forStations fun n a ha => ?_
  simp only
  split
  · exact ha.setLate e n true
  · exact ha.engineTick e n

theorem State.Holds.edgeStart (h : s.Holds I) (e : EventLaw I) (waits : Bool) : (edgeStart waits s).Holds I := by
  unfold Machine.edgeStart
  split
  · exact h
  · exact h.finishTick e

theorem State.Holds.takeEncoder (h : s.Holds I) (e : EventLaw I) (d : EdgeDir) : (takeEncoder d s).Holds I := by
  have h' : ({ s with encFilter := filterAt s.encFilter (edgeLevel d) } : State).Holds I :=
    ⟨h.frame rfl rfl rfl rfl rfl rfl fun _ => id, e.unmoved (.of_other rfl) h.law⟩
  unfold Machine.takeEncoder
  simp only
  split
  · exact h'.advance e
  · exact h'

theorem State.Holds.laneEdge (h : s.Holds I) (e : EventLaw I) (l : LaneNo) (x : Sense) : (laneEdge l x s).Holds I :=
  ((h.edgeStart e _).setEdge e l _ none).takeSense e l x

theorem State.Holds.xstopChange (h : s.Holds I) (e : EventLaw I) (d : EdgeDir) : (xstopChange d s).Holds I :=
  ((h.edgeStart e _).setXstop e _ none).takeXstop e d

theorem State.Holds.takeRateExpiry (h : s.Holds I) (e : EventLaw I) : (takeRateExpiry s).Holds I := by
  unfold Machine.takeRateExpiry
  split
  · exact h.takeDueAdvance e
  · exact h

theorem State.Holds.event {f : State → State} (h : s.Holds I) (hf : s.Holds I → (f s).Holds I) : (event f s).Holds I := by
  unfold Machine.event
  split
  · exact h
  · exact hf h

theorem State.Holds.access {f : State → State} (h : s.Holds I) (e : EventLaw I) (hf : ∀ a, a.Holds I → (f a).Holds I) :
    (access f s).Holds I := h.event fun h => hf _ (h.finishTick e)

theorem State.Holds.promote (h : s.Holds I) (e : EventLaw I) : (promote s).Holds I :=
  ⟨h.promote_keeps, e.promote h.toCoupled h.law⟩

/-! ### The commands -/

/-- A command that moves nothing of what the laws read. -/
theorem EventLaw.doStart (e : EventLaw I) (h : I s) : I (doStart s).2 := by
  unfold Machine.doStart
  split
  · exact h
  · split
    · exact h
    · exact e.unmoved (s := s) (.of_other rfl) h

theorem EventLaw.doDrain (e : EventLaw I) (h : I s) : I (doDrain s).2 := by
  unfold Machine.doDrain
  split
  · exact h
  · exact e.unmoved (drainCheck_unmoved _) (e.unmoved (s := s) (.of_other rfl) h)

theorem EventLaw.doHalt (e : EventLaw I) (h : s.Holds I) : I (doHalt s).2 := by
  obtain ⟨a, ha, hd⟩ : ∃ a, a = settleDue s ∧ a.Holds I := ⟨_, rfl, h.settleDue e⟩
  cases hr : s.running with
  | false => rw [doHalt_refused hr]; exact h.law
  | true =>
    cases hra : a.running with
    | false => rw [doHalt_ended hr ha hra]; exact hd.law
    | true => rw [doHalt_taken hr ha hra]; exact (hd.haltEntry e .command).law

theorem EventLaw.doResume (e : EventLaw I) (h : I s) : I (doResume s).2 := by
  unfold Machine.doResume
  split
  · exact h
  · split
    · exact h
    · exact e.unmoved (s := s) (.of_other rfl) h

/-- SET_POSITION changes the guard marks of the stations and nothing else of them (R14). -/
theorem EventLaw.doSetPosition (e : EventLaw I) (h : I s) : I (doSetPosition s).2 := by
  unfold Machine.doSetPosition
  split
  · exact h
  · refine e.unmoved (s := s) ?_ h
    constructor <;> simp [State.station]

/-- The settings of the timebase, of a lane and of a profile. -/
theorem EventLaw.settings (e : EventLaw I) (h : I s) :
    I (doSetTimebase s).2 ∧ I (doSetLane s).2 ∧ I (doSetProfile s).2 := by
  refine ⟨?_, ?_, ?_⟩
  · unfold doSetTimebase
    (repeat' split) <;> exact e.unmoved (s := s) (.of_other rfl) h
  · unfold doSetLane
    split <;> exact e.unmoved (s := s) (.of_other rfl) h
  · unfold doSetProfile
    split <;> exact e.unmoved (s := s) (.of_other rfl) h

/-- A read fills the reply window. -/
theorem EventLaw.reads (e : EventLaw I) (h : I s) :
    I (doReadLane s).2 ∧ I (doReadStation s).2 ∧ I (doReadProfile s).2 ∧ I (doReadItem s).2 ∧ I (doReadTimebase s).2 := by
  refine ⟨?_, ?_, ?_, ?_, e.unmoved (s := s) (.of_other rfl) h⟩
  · unfold doReadLane
    split <;> exact e.unmoved (s := s) (.of_other rfl) h
  · unfold doReadStation
    split <;> exact e.unmoved (s := s) (.of_other rfl) h
  · unfold doReadProfile
    split <;> exact e.unmoved (s := s) (.of_other rfl) h
  · unfold doReadItem
    split <;> exact e.unmoved (s := s) (.of_other rfl) h

theorem EventLaw.doVerdict (e : EventLaw I) (h : s.Holds I) : I (doVerdict s).2 := by
  unfold Machine.doVerdict
  split
  · exact h.law
  next r hk =>
    split
    next => exact h.law
    next hs =>
      unfold verdictPending
      split
      · exact h.law
      · simp only
        split
        · exact h.law
        next hen =>
          split
          · exact h.law
          · split
            · exact h.law
            · split
              · exact h.law
              next ha => exact e.place h.toCoupled h.law (keyCheck_spec hk) hs (by simpa using hen) ha _
    all_goals exact h.law

theorem EventLaw.doPass (e : EventLaw I) (h : s.Holds I) : I (doPass s).2 := by
  unfold Machine.doPass
  split
  · exact h.law
  next r hk =>
    split
    next => exact h.law
    next hs => exact (h.retirePending e (keyCheck_spec hk) (.inl hs) .passed).law
    all_goals exact h.law

theorem EventLaw.doAbort (e : EventLaw I) (h : s.Holds I) : I (doAbort s).2 := by
  unfold Machine.doAbort
  split
  · exact h.law
  next r hk =>
    split
    next => exact h.law
    next hs => exact (h.retirePending e (keyCheck_spec hk) (.inl hs) .aborted).law
    next hs => exact (h.retirePending e (keyCheck_spec hk) (.inr hs) .aborted).law
    all_goals exact h.law

theorem EventLaw.commandBody (e : EventLaw I) (h : s.Holds I) (c : HostCommand) : I (commandBody c s).2 := by
  obtain ⟨htimebase, hlane, hprofile⟩ := e.settings h.law
  obtain ⟨hreadLane, hreadStation, hreadProfile, hreadItem, hreadTimebase⟩ := e.reads h.law
  cases c with
  | start => exact e.doStart h.law
  | drain => exact e.doDrain h.law
  | halt => exact e.doHalt h
  | resume => exact e.doResume h.law
  | clearLine => exact e.clearLine h.law
  | setTimebase => exact htimebase
  | setPosition => exact e.doSetPosition h.law
  | setLane => exact hlane
  | setStation => exact e.setStation h.law
  | setProfile => exact hprofile
  | setFreeThreshold => exact e.setFreeThreshold h.law
  | readLane => exact hreadLane
  | readStation => exact hreadStation
  | readProfile => exact hreadProfile
  | readItem => exact hreadItem
  | readTimebase => exact hreadTimebase
  | nextDetection => exact e.nextDetection h.law
  | nextOutcome => exact e.nextOutcome h.toCoupled h.law
  | verdict => exact e.doVerdict h
  | pass => exact e.doPass h
  | abort => exact e.doAbort h

/-! ### The rows -/

theorem State.Holds.runCommand (h : s.Holds I) (e : EventLaw I) (c : HostCommand) : (runCommand c s).Holds I := by
  refine ⟨h.runCommand_keeps c, ?_⟩
  unfold Machine.runCommand
  split
  · exact h.law
  · exact e.unmoved (s := (Machine.commandBody c (Machine.finishTick s)).2) (.of_stations rfl rfl rfl rfl rfl rfl rfl)
      (e.commandBody (h.finishTick e) c)

theorem State.Holds.writeCmd (h : s.Holds I) (e : EventLaw I) (b : Byte) : (writeCmd b s).Holds I := by
  unfold Machine.writeCmd
  split
  · exact h.runCommand e _
  · refine h.event fun h => ⟨h.frame rfl rfl rfl rfl rfl rfl fun _ => id, ?_⟩
    exact e.unmoved (s := s) (.of_other rfl) h.law

theorem State.Holds.clearFlags (h : s.Holds I) (e : EventLaw I) (b : Byte) : (clearFlags b s).Holds I :=
  h.access e fun _ ha => ⟨ha.frame rfl rfl rfl rfl rfl rfl fun _ => id, e.writeFlags ha.law b⟩

/-- The parameter bytes and the enables are no part of the laws. -/
theorem State.Holds.writeWindow (h : s.Holds I) (e : EventLaw I) (params : Vector Byte 12) (enables : BitVec 7) :
    ({ s with params, enables } : State).Holds I :=
  ⟨h.frame rfl rfl rfl rfl rfl rfl fun _ => id, e.unmoved (s := s) (.of_other rfl) h.law⟩

theorem State.Holds.deliver (h : s.Holds I) (e : EventLaw I) (a : BitVec 6) (b : Byte) : (deliver a b s).Holds I := by
  unfold Machine.deliver
  simp only
  split
  · exact h.writeCmd e b
  · split
    · exact h.writeWindow e _ s.enables
    · split
      · exact h.clearFlags e b
      · split
        · exact h.writeWindow e s.params _
        · exact h

/-- The reset state, whatever commands wait, and whether it is held (R162). -/
theorem EventLaw.resetState (e : EventLaw I) (s : State) (held : Bool) :
    ({ resetState s with inReset := held } : State).Holds I :=
  ⟨(resetState_coupled s).frame rfl rfl rfl rfl rfl rfl fun _ => id,
   e.unmoved (s := State.reset) (.of_stations rfl rfl rfl rfl rfl rfl rfl) e.reset⟩

/-- Every row keeps the laws. -/
theorem State.Holds.exec (h : s.Holds I) (e : EventLaw I) {c : Instr} (he : exec c s = .next t) : t.Holds I := by
  cases c <;> obtain rfl := Host.Outcome.next.inj he
  case badCommand b => exact h.writeCmd e b
  case paramWrite => exact h.event fun h => h.writeWindow e _ s.enables
  case irqEnableWrite => exact h.event fun h => h.writeWindow e s.params _
  case irqFlagsWrite b => exact h.clearFlags e b
  case pos0Read =>
    refine h.access e fun a ha => ⟨ha.frame rfl rfl rfl rfl rfl rfl fun _ => id, ?_⟩
    exact e.unmoved (s := a) (.of_other rfl) ha.law
  case registerWrite a b y =>
    refine h.event fun h => ?_
    split
    · exact h.deliver e a b
    · exact h
  case reset n =>
    split
    · exact e.resetState s true
    · exact h
  case resetRelease =>
    split
    · exact e.resetState s false
    · exact h
  case tick pins late => exact h.event fun h => (h.settleAll e).tickNow e pins late
  case encoderEdge d => exact h.event fun h => ((h.edgeStart e _).dropAdvance e).takeEncoder e d
  case rateCountdownExpiry => exact h.event fun h => h.takeRateExpiry e
  case xstopActive => exact h.event fun h => h.xstopChange e .falling
  case xstopInactive => exact h.event fun h => h.xstopChange e .rising
  case leadEdge l => exact h.event fun h => h.laneEdge e l .lead
  case trailingEdge l => exact h.event fun h => h.laneEdge e l .trailing
  case jam l => exact h.event fun h => h.takeJam e l
  case deadline u => exact h.event fun h => h.takeDeadline e u
  case arrival n => exact h.event fun h => h.takeArrival e n
  case offPositionReached n => exact h.event fun h => h.takeOffPosition e n
  case timePulseEnd n => exact h.event fun h => (h.takeLateTick e n).takeTimePulseEnd e n
  case maxOnCut n => exact h.event fun h => (h.takeLateTick e n).takeMaxOnCut e n
  case recoveryEnd n => exact h.event fun h => (h.takeLateTick e n).takeRecoveryEnd e n
  case guardMarkReached n => exact h.event fun h => h.takeGuardMark e n
  case drainCompletion => exact h.event fun h => h.drainCheck e
  case backlogPromotion => exact h.event fun h => h.promote e
  all_goals exact h.runCommand e _

/-- Every step keeps the laws. -/
theorem State.Holds.step (h : s.Holds I) (e : EventLaw I) (hs : step s = .next t) : t.Holds I := by
  refine ⟨h.step_keeps hs, ?_⟩
  unfold Machine.step at hs
  split at hs
  · obtain rfl := Host.Outcome.next.inj hs
    rw [idleClock_eq]
    exact e.unmoved (s := s) (.of_other rfl) h.law
  next c rest _ =>
    have h' : ({ s with pending := rest } : State).Holds I :=
      ⟨h.frame rfl rfl rfl rfl rfl rfl fun _ => id, e.unmoved (s := s) (.of_other rfl) h.law⟩
    exact (h'.exec e hs).law

end
end Sys2Proof.Machine
end

section
/-! The outcome queue, the backlog with its flag, and the free threshold over every event (R73, R139, R170). -/

namespace Sys2Proof.Machine

/-- What R139, R170 and R73 say of the queue, of the flag that tells of a backlog, and of the free threshold. -/
structure State.deliveryLaw (s : State) : Prop where
  queue     : s.queueLaw
  flag      : s.backlogFlagLaw
  threshold : s.thresholdLaw

section
variable {s t : State}

theorem State.Sound.deliveryLaw (h : s.Sound) : s.deliveryLaw := ⟨h.queue, h.flag, h.threshold⟩

theorem State.deliveryLaw.congr (h : s.deliveryLaw) (hq : t.queue = s.queue) (hb : t.backlog = s.backlog)
    (hf : t.backlogFlag = s.backlogFlag) (hth : t.freeThreshold = s.freeThreshold) : t.deliveryLaw where
  queue := by simpa [State.queueLaw, hq, hb] using h.queue
  flag := by simpa [State.backlogFlagLaw, hb, hf] using h.flag
  threshold := by simpa [State.thresholdLaw, hth] using h.threshold

/-- With no backlog only the length of the queue and the threshold count. -/
theorem State.deliveryLaw.of_no_backlog (hb : s.backlog = []) (hq : s.queue.length ≤ 16) (hth : s.thresholdLaw) :
    s.deliveryLaw := ⟨⟨hq, fun h => absurd hb h⟩, fun h => absurd hb h, hth⟩

/-! ### Retirement (R140, R170) -/

theorem State.deliveryLaw.retire_keeps (h : s.deliveryLaw) (u : Byte) (c : OutcomeCode) : (retire u c s).deliveryLaw := by
  cases hf : s.liveRecord u with
  | none => rw [retire_absent hf]; exact h
  | some r =>
    obtain ⟨-, rfl, -⟩ := liveRecord_spec hf
    refine ⟨retire_queueLaw h.queue hf c, ?_, by simpa [State.thresholdLaw] using h.threshold⟩
    intro hne
    obtain ⟨-, -, hb, hflag⟩ | ⟨-, -, -, hflag, -⟩ := retire_live_cases hf c
    · exact hflag.trans (h.flag (hb ▸ hne))
    · rw [hflag]
      cases hb : s.backlog with
      | nil => simp
      | cons v vs => simp [h.flag (by simp [hb])]

theorem deliveryLaw_settling : Settling fun t s => s.deliveryLaw → t.deliveryLaw where
  refl _ := id
  trans h h' := h ∘ h'
  setStation _ _ _ h := h.congr rfl rfl rfl rfl
  modifyRecord _ _ _ h := h.congr rfl rfl rfl rfl
  dropAnnounce _ _ h := h.congr rfl rfl rfl rfl
  retire u c _ h := h.retire_keeps u c
  drainCheck s h := h.congr (by simp) (by simp) (by simp) (by simp)
  jammed _ _ h := h.congr rfl rfl rfl rfl

/-! ### Promotion and NEXT_OUTCOME (R71, R142) -/

/-- The head of the backlog moves into the queue, which has room (R71, R142). -/
theorem promote_head {u : Byte} {us : List Byte} {r : ItemRecord} (hb : s.backlog = u :: us) (hq : s.queue.length < 16)
    (hr : s.heldRecord u = some r) :
    promote s =
      { s.freeSlot u with backlog := us, queue := s.queue ++ [outcomeOf r (r.outcome.getD .halted)] } := by
  unfold promote
  rw [hb]
  simp only [hr]
  exact if_pos hq

/-- By the law of R139 the queue has no room while a backlog waits, so that there is nothing to promote. -/
theorem State.deliveryLaw.promote_eq (h : s.deliveryLaw) : promote s = s := by
  refine promote_none ?_
  by_cases hb : s.backlog = []
  · exact .inl hb
  · exact .inr (h.queue.2 hb).ge

/-- A record that waits in the backlog is found by its tag. -/
theorem State.Filed.heldRecord_backlog {P : ItemRecord → Prop} (h : s.Filed P) {u : Byte} (hu : u ∈ s.backlog) :
    ∃ r, s.heldRecord u = some r := by
  obtain ⟨r, hr, rfl, -⟩ := (h.backlog.2 u).1 hu
  exact ⟨r, h.table.heldRecord_eq hr⟩

theorem doNextOutcome_empty (h : s.queue = []) : doNextOutcome s = (.empty, s) := by
  simp [doNextOutcome, h, refuse]

theorem doNextOutcome_head {o : OutcomeRecord} {rest : List OutcomeRecord} (h : s.queue = o :: rest) :
    doNextOutcome s = (.ok, promote { s with queue := rest, reply := outcomeReply o }) := by
  simp [doNextOutcome, h]

theorem State.deliveryLaw.doNextOutcome_keeps {P : ItemRecord → Prop} (h : s.deliveryLaw) (hc : s.Filed P) :
    (doNextOutcome s).2.deliveryLaw := by
  cases hq : s.queue with
  | nil => rw [doNextOutcome_empty hq]; exact h
  | cons o rest =>
    obtain ⟨hlen, hfull⟩ := h.queue
    rw [hq, List.length_cons] at hlen hfull
    rw [doNextOutcome_head hq]
    by_cases hb : s.backlog = []
    · rw [promote_none (.inl (by exact hb))]
      exact .of_no_backlog hb (Nat.le_of_succ_le hlen) h.threshold
    · obtain ⟨u, us, hu⟩ := List.exists_cons_of_ne_nil hb
      obtain ⟨r, hr⟩ := hc.heldRecord_backlog (u := u) (by simp [hu])
      have hroom : rest.length < 16 := Nat.lt_of_succ_le hlen
      have hlen' : (rest ++ [outcomeOf r (r.outcome.getD .halted)]).length = 16 := by
        rw [List.length_append, List.length_singleton, hfull hb]
      rw [promote_head (by exact hu) (by exact hroom) (by exact hr)]
      exact ⟨⟨hlen'.le, fun _ => hlen'⟩, fun _ => h.flag hb, h.threshold⟩

/-! ### The other events -/

theorem State.deliveryLaw.doClearLine_keeps (h : s.deliveryLaw) : (doClearLine s).2.deliveryLaw := by
  unfold doClearLine
  split
  · exact h
  · exact .of_no_backlog rfl (by simp) h.threshold

theorem State.deliveryLaw.doNextDetection_keeps (h : s.deliveryLaw) : (doNextDetection s).2.deliveryLaw := by
  unfold doNextDetection
  (repeat' split) <;> exact h.congr rfl rfl rfl rfl

theorem State.deliveryLaw.doSetStation_keeps (h : s.deliveryLaw) : (doSetStation s).2.deliveryLaw := by
  unfold doSetStation
  simp only
  (repeat' split) <;> exact h.congr rfl rfl rfl rfl

/-- A threshold that SET_FREE_THRESHOLD takes is 0 to 31 (R73). -/
theorem State.deliveryLaw.doSetFreeThreshold_keeps (h : s.deliveryLaw) : (doSetFreeThreshold s).2.deliveryLaw := by
  unfold doSetFreeThreshold
  split
  · exact h
  next b hb =>
    obtain ⟨rfl, -, hle⟩ := within_eq_some hb
    exact ⟨h.queue, h.flag, hle⟩

/-- BACKLOG is not cleared while a backlog waits (R166). -/
theorem State.deliveryLaw.writeFlags_keeps (h : s.deliveryLaw) (b : Byte) : (writeFlags b s).deliveryLaw := by
  refine ⟨h.queue, fun (hb : s.backlog ≠ []) => ?_, h.threshold⟩
  have hne : s.backlog.isEmpty = false := by simpa using hb
  have hflag : s.backlogFlag = true := h.flag hb
  simp [writeFlags, hflag, hne]

theorem State.deliveryLaw.haltEntry_keeps (h : s.deliveryLaw) (cause : HaltCause) : (haltEntry cause s).deliveryLaw := by
  have h' : ({ s with run := .halt, haltCause := cause } : State).deliveryLaw := h.congr rfl rfl rfl rfl
  have hall := deliveryLaw_settling.foldl (fun a u => deliveryLaw_settling.retire u .halted a)
    ((s.items.filter ItemRecord.isLive).map ItemRecord.tag) _ h'
  exact hall.congr rfl rfl rfl rfl

theorem deliveryLaw_eventLaw : EventLaw State.deliveryLaw where
  unmoved hu h := h.congr hu.queue hu.backlog hu.backlogFlag hu.freeThreshold
  reset := sound_reset.deliveryLaw
  retire _ h _ _ _ c := h.retire_keeps _ c
  pulseEnd _ h _ c := deliveryLaw_settling.pulseEnd _ _ c _ h
  recoveryEnd h _ := h.congr rfl rfl rfl rfl
  engineTick _ h n := h.congr (by simp) (by simp) (by simp) (by simp)
  startPulse _ h _ _ := h.congr rfl rfl rfl rfl
  collide _ h _ := deliveryLaw_settling.retireAndCheck _ .collided _ (h.congr rfl rfl rfl rfl)
  defaultEject _ h _ _ := deliveryLaw_settling.defaultEject _ _ h
  place _ h _ _ _ _ o := deliveryLaw_settling.place _ _ o _ _ h
  allocate _ h _ _ := h.congr rfl rfl rfl rfl
  discard _ h _ _ := h.congr rfl rfl rfl rfl
  announce _ h _ _ _ := h.congr rfl rfl rfl rfl
  haltEntry _ h cause := h.haltEntry_keeps cause
  promote _ h := h.promote_eq.symm ▸ h
  nextOutcome hc h := h.doNextOutcome_keeps hc.toFiled
  nextDetection h := h.doNextDetection_keeps
  clearLine h := h.doClearLine_keeps
  setStation h := h.doSetStation_keeps
  setFreeThreshold h := h.doSetFreeThreshold_keeps
  writeFlags h b := h.writeFlags_keeps b

end

/-- Settles O57: the table and the backlog go with the coupled laws, and the queue, the flag and the threshold by the walk over the
events. -/
theorem stepKeepsQueueBacklogAndTable : Obligations.StepKeepsQueueBacklogAndTable := by
  intro s t hs ht
  have h := State.Holds.step ⟨hs.coupled, hs.deliveryLaw⟩ deliveryLaw_eventLaw ht
  exact ⟨h.law.queue, h.law.flag, h.table, h.backlog, h.law.threshold⟩

end Sys2Proof.Machine
end

section
/-! The announce list, the station lists and the engines, record by record: what the laws of R62, R108, R119 and R120 say of one record,
and which events leave a record's part of them alone. -/

namespace Sys2Proof.Machine

/-! ### The laws, record by record -/

/-- Where the record `r` stands: announced only while PENDING (R62), in the one list of its station exactly while COMMITTED (R108),
and with the one engine of its station ON exactly while FIRING (R120, R123). -/
structure State.Routes (s : State) (r : ItemRecord) : Prop where
  announced : r.tag ∈ s.announce → r.state = .pending
  listed : ∀ n, r.tag ∈ (s.station n).list ↔ r.state = .committed ∧ r.verdict.map Verdict.station = some n
  fires : ∀ n q, (s.station n).engine = .on q → q.tag = r.tag →
    r.state = .firing ∧ r.verdict.map Verdict.station = some n ∧ r.firing.map Firing.onTicks = some q.onTicks
  fired : r.state = .firing →
    ∃ n q, r.verdict.map Verdict.station = some n ∧ (s.station n).engine = .on q ∧ q.tag = r.tag

/-- No list and no engine names the tag `u`. -/
structure State.Unnamed (s : State) (u : Byte) : Prop where
  announce : u ∉ s.announce
  list : ∀ n, u ∉ (s.station n).list
  engine : ∀ n q, (s.station n).engine = .on q → q.tag ≠ u

/-- What the laws say of the lists and the stations themselves: no tag twice, and an engine DISABLED exactly with ENABLE 0, its list
then empty (R119). -/
structure State.Tidy (s : State) : Prop where
  announce : s.announce.Nodup
  list : ∀ n, (s.station n).list.Nodup
  enable : ∀ n, (s.station n).record.enable = false ↔ (s.station n).engine = .disabled
  closed : ∀ n, (s.station n).engine = .disabled → (s.station n).list = []

/-- The laws of the announce list, the station lists and the engines together. -/
structure State.Routed (s : State) : Prop where
  tidy : s.Tidy
  records : ∀ r ∈ s.items, s.Routes r
  absent : ∀ u, (∀ r ∈ s.items, r.tag ≠ u) → s.Unnamed u

section
variable {P : ItemRecord → Prop} {s t a : State} {r : ItemRecord} {u w : Byte}

theorem State.Sound.routed (h : s.Sound) : s.Routed := by
  obtain ⟨hnodup, hann⟩ := h.announce
  obtain ⟨hon, hfire, hst⟩ := h.engines
  constructor
  case tidy => exact ⟨hnodup, fun n => (h.lists n).1, fun n => (hst n).1, fun n => (hst n).2⟩
  case records =>
    intro r hr
    constructor
    case announced =>
      intro hm
      obtain ⟨x, hx, hxt, hxs⟩ := hann _ hm
      rwa [h.table.tag_inj hr hx hxt] at hxs
    case listed =>
      intro n
      refine ((h.lists n).2 r.tag).trans ⟨?_, fun hc => ⟨r, hr, rfl, hc⟩⟩
      rintro ⟨x, hx, hxt, hxs⟩
      rwa [h.table.tag_inj hr hx hxt] at hxs
    case fires =>
      intro n q hq ht
      obtain ⟨x, hx, hxt, hxs⟩ := hon n q hq
      rwa [h.table.tag_inj hr hx (hxt.trans ht)] at hxs
    case fired => exact hfire r hr
  case absent =>
    intro u hu
    constructor
    case announce =>
      intro hm
      obtain ⟨x, hx, hxt, -⟩ := hann u hm
      exact hu x hx hxt
    case list =>
      intro n hm
      obtain ⟨x, hx, hxt, -⟩ := ((h.lists n).2 u).1 hm
      exact hu x hx hxt
    case engine =>
      intro n q hq ht
      obtain ⟨x, hx, hxt, -⟩ := hon n q hq
      exact hu x hx (hxt.trans ht)

/-- A tag that something names is the tag of a record. -/
theorem State.Routed.exists_record (h : s.Routed) (hn : ¬ s.Unnamed u) : ∃ r ∈ s.items, r.tag = u := by
  by_contra hc
  exact hn (h.absent u fun r hr e => hc ⟨r, hr, e⟩)

theorem State.Routed.announceLaw (h : s.Routed) : s.announceLaw := by
  refine ⟨h.tidy.announce, fun u hu => ?_⟩
  obtain ⟨r, hr, rfl⟩ := h.exists_record fun hn => hn.announce hu
  exact ⟨r, hr, rfl, (h.records r hr).announced hu⟩

theorem State.Routed.listLaw (h : s.Routed) : s.listLaw := by
  refine fun n => ⟨h.tidy.list n, fun u => ⟨fun hu => ?_, ?_⟩⟩
  · obtain ⟨r, hr, rfl⟩ := h.exists_record fun hn => hn.list n hu
    exact ⟨r, hr, rfl, ((h.records r hr).listed n).1 hu⟩
  · rintro ⟨r, hr, rfl, hc⟩
    exact ((h.records r hr).listed n).2 hc

theorem State.Routed.engineLaw (h : s.Routed) : s.engineLaw := by
  refine ⟨fun n q hq => ?_, fun r hr hs => (h.records r hr).fired hs, fun n => ⟨h.tidy.enable n, h.tidy.closed n⟩⟩
  obtain ⟨r, hr, ht⟩ := h.exists_record fun hn => hn.engine n q hq rfl
  exact ⟨r, hr, ht, (h.records r hr).fires n q hq ht.symm⟩

/-! ### A record that nothing names -/

/-- Nothing names a MEASURING or a RETIRED record. -/
theorem State.Routes.unnamed (h : s.Routes r) (hs : r.state = .measuring ∨ r.state = .retired) : s.Unnamed r.tag where
  announce hm := by have := h.announced hm; obtain hs | hs := hs <;> simp [hs] at this
  list n hm := by have := ((h.listed n).1 hm).1; obtain hs | hs := hs <;> simp [hs] at this
  engine n q hq ht := by have := (h.fires n q hq ht).1; obtain hs | hs := hs <;> simp [hs] at this

theorem State.Unnamed.routes (h : s.Unnamed r.tag) (hc : r.state ≠ .committed) (hf : r.state ≠ .firing) : s.Routes r where
  announced hm := absurd hm h.announce
  listed n := iff_of_false (h.list n) fun hl => hc hl.1
  fires n q hq ht := absurd ht (h.engine n q hq)
  fired hs := absurd hs hf

/-! ### What leaves the part of one tag alone -/

/-- From `s` to `t` nothing changes in what concerns the tag `w`, but that its reference may leave the announce list. -/
structure SameAt (w : Byte) (t s : State) : Prop where
  records : ∀ x, x.tag = w → (x ∈ t.items ↔ x ∈ s.items)
  announce : w ∈ t.announce → w ∈ s.announce
  list : ∀ n, w ∈ (t.station n).list ↔ w ∈ (s.station n).list
  engine : ∀ n q, q.tag = w → ((t.station n).engine = .on q ↔ (s.station n).engine = .on q)

theorem SameAt.trans (h : SameAt w t a) (h' : SameAt w a s) : SameAt w t s where
  records x hx := (h.records x hx).trans (h'.records x hx)
  announce hm := h'.announce (h.announce hm)
  list n := (h.list n).trans (h'.list n)
  engine n q ht := (h.engine n q ht).trans (h'.engine n q ht)

theorem SameAt.refl (w : Byte) (s : State) : SameAt w s s := ⟨fun _ _ => .rfl, id, fun _ => .rfl, fun _ _ _ => .rfl⟩

theorem Unmoved.sameAt (h : Unmoved t s) (w : Byte) : SameAt w t s where
  records x _ := by rw [h.items]
  announce hm := by rwa [h.announce] at hm
  list n := by rw [h.list]
  engine n q _ := by rw [h.engine]

theorem sameAt_setStation {n : StationNo} {x : Station} (hl : w ∈ x.list ↔ w ∈ (s.station n).list)
    (he : ∀ q, q.tag = w → (x.engine = .on q ↔ (s.station n).engine = .on q)) : SameAt w (s.setStation n x) s where
  records _ _ := .rfl
  announce := id
  list m := by
    rw [station_setStation]
    split
    next e => rw [e]; exact hl
    next => exact .rfl
  engine m q ht := by
    rw [station_setStation]
    split
    next e => rw [e]; exact he q ht
    next => exact .rfl

theorem sameAt_modifyRecord {f : ItemRecord → ItemRecord} (hw : w ≠ u) (hf : ∀ x, (f x).tag = x.tag) :
    SameAt w (s.modifyRecord u f) s where
  records _ hx := mem_modifyRecord_other hf (hx.trans_ne hw)
  announce := id
  list _ := .rfl
  engine _ _ _ := .rfl

theorem sameAt_dropAnnounce (w u : Byte) (s : State) : SameAt w (s.dropAnnounce u) s where
  records _ _ := .rfl
  announce hm := (List.mem_filter.1 hm).1
  list _ := .rfl
  engine _ _ _ := .rfl

theorem State.Routes.same (h : s.Routes r) (e : SameAt r.tag t s) : t.Routes r where
  announced hm := h.announced (e.announce hm)
  listed n := (e.list n).trans (h.listed n)
  fires n q hq ht := h.fires n q ((e.engine n q ht).1 hq) ht
  fired hs := by
    obtain ⟨n, q, hv, hq, ht⟩ := h.fired hs
    exact ⟨n, q, hv, (e.engine n q ht).2 hq, ht⟩

theorem State.Unnamed.same (h : s.Unnamed u) (e : SameAt u t s) : t.Unnamed u where
  announce hm := h.announce (e.announce hm)
  list n hm := h.list n ((e.list n).1 hm)
  engine n q hq ht := h.engine n q ((e.engine n q ht).1 hq) ht

/-- Only the announce list and the stations name tags. -/
theorem State.Unnamed.congr (h : s.Unnamed u) (ha : t.announce = s.announce) (hst : t.stations = s.stations) : t.Unnamed u := by
  have hstation : ∀ n, t.station n = s.station n := fun n => by simp [State.station, hst]
  obtain ⟨hann, hlist, heng⟩ := h
  constructor <;> simpa only [ha, hstation]

/-! ### Events on one tag -/

/-- An event on the tag `u` alone: the laws of every other tag stay, and those of `u` hold after it. -/
theorem State.Routed.change (h : s.Routed) (htidy : t.Tidy) (u : Byte) (hsame : ∀ w, w ≠ u → SameAt w t s)
    (hown : ∀ x ∈ t.items, x.tag = u → t.Routes x) (hnone : (∀ x ∈ t.items, x.tag ≠ u) → t.Unnamed u) : t.Routed where
  tidy := htidy
  records x hx := by
    by_cases e : x.tag = u
    · exact hown x hx e
    · have he := hsame x.tag e
      exact (h.records x ((he.records x rfl).1 hx)).same he
  absent w hw := by
    by_cases e : w = u
    · subst e; exact hnone hw
    · have he := hsame w e
      exact (h.absent w fun r hr ht => hw r ((he.records r ht).2 hr) ht).same he

/-- An event that leaves every tag alone. -/
theorem State.Routed.of_same (h : s.Routed) (htidy : t.Tidy) (hsame : ∀ w, SameAt w t s) : t.Routed where
  tidy := htidy
  records x hx := (h.records x (((hsame x.tag).records x rfl).1 hx)).same (hsame x.tag)
  absent w hw := (h.absent w fun r hr ht => hw r (((hsame w).records r ht).2 hr) ht).same (hsame w)

/-- A change of the record of `u`, among others, after which the laws hold of the changed record. -/
theorem State.Routed.change_record (h : s.Routed) (hf : a.Filed P) (hr : r ∈ a.items) {f : ItemRecord → ItemRecord}
    (htag : ∀ x, (f x).tag = x.tag) (hsame : ∀ w, w ≠ r.tag → SameAt w a s) (htidy : (a.modifyRecord r.tag f).Tidy)
    (hown : (a.modifyRecord r.tag f).Routes (f r)) : (a.modifyRecord r.tag f).Routed := by
  refine h.change htidy r.tag (fun w hw => (sameAt_modifyRecord hw htag).trans (hsame w hw)) (fun x hx ht => ?_) fun hn => ?_
  · rwa [hf.mem_modifyRecord_own hr hx ht]
  · exact absurd (htag r) (hn (f r) (mem_modifyRecord.2 (.inr ⟨r, hr, rfl, rfl⟩)))

/-- Records that nothing names leave the table. -/
theorem State.Routed.forget (h : s.Routed) (ha : t.announce = s.announce) (hst : t.stations = s.stations)
    (hsub : ∀ x ∈ t.items, x ∈ s.items)
    (hgone : ∀ x ∈ s.items, x ∉ t.items → x.state = .measuring ∨ x.state = .retired) : t.Routed := by
  have hstation : ∀ n, t.station n = s.station n := fun n => by simp [State.station, hst]
  have hroutes : ∀ x, s.Routes x → t.Routes x := fun x hx => by
    obtain ⟨hann, hlist, hfires, hfired⟩ := hx
    constructor <;> simpa only [ha, hstation]
  constructor
  case tidy =>
    obtain ⟨hann, hlist, hen, hcl⟩ := h.tidy
    constructor <;> simpa only [ha, hstation]
  case records => exact fun x hx => hroutes x (h.records x (hsub x hx))
  case absent =>
    intro w hw
    refine State.Unnamed.congr ?_ ha hst
    by_cases hc : ∃ x ∈ s.items, x.tag = w
    · obtain ⟨x, hx, rfl⟩ := hc
      exact (h.records x hx).unnamed (hgone x hx fun hm => hw x hm rfl)
    · exact h.absent w fun x hx e => hc ⟨x, hx, e⟩

/-! ### The lists and the stations themselves -/

/-- Shorter lists, with the records and the engines of the stations as they were. -/
theorem State.Tidy.shrink (h : s.Tidy) (ha : t.announce.Sublist s.announce)
    (hl : ∀ n, (t.station n).list.Sublist (s.station n).list) (he : ∀ n, (t.station n).engine = (s.station n).engine)
    (hr : ∀ n, (t.station n).record = (s.station n).record) : t.Tidy where
  announce := h.announce.sublist ha
  list n := (h.list n).sublist (hl n)
  enable n := by rw [he, hr]; exact h.enable n
  closed n hd := by
    rw [he] at hd
    exact List.sublist_nil.1 (h.closed n hd ▸ hl n)

theorem State.Tidy.congr (h : s.Tidy) (ha : t.announce = s.announce) (hst : t.stations = s.stations) : t.Tidy := by
  have hstation : ∀ n, t.station n = s.station n := fun n => by simp [State.station, hst]
  exact h.shrink (by rw [ha]) (fun n => by rw [hstation]) (fun n => by rw [hstation]) fun n => by rw [hstation]

theorem State.Tidy.setStation_keeps (h : s.Tidy) {n : StationNo} {x : Station} (hl : x.list.Nodup)
    (he : x.record.enable = false ↔ x.engine = .disabled) (hc : x.engine = .disabled → x.list = []) :
    (s.setStation n x).Tidy := by
  constructor
  case announce => exact h.announce
  case list => intro m; rw [station_setStation]; split; exacts [hl, h.list m]
  case enable => intro m; rw [station_setStation]; split; exacts [he, h.enable m]
  case closed => intro m; rw [station_setStation]; split; exacts [hc, h.closed m]

/-- An engine that is not DISABLED is that of an enabled station, and stays so while it is not DISABLED (R119). -/
theorem State.Tidy.setEngine_keeps (h : s.Tidy) {n : StationNo} {x : Station} (hl : x.list.Nodup)
    (hr : x.record = (s.station n).record) (hs : (s.station n).engine ≠ .disabled) (hx : x.engine ≠ .disabled) :
    (s.setStation n x).Tidy := by
  refine h.setStation_keeps hl (iff_of_false ?_ hx) fun hd => absurd hd hx
  rw [hr]
  exact fun hd => hs ((h.enable n).1 hd)

/-! ### Retirement -/

theorem unlisted_sublist (s : State) (r : ItemRecord) (n : StationNo) :
    (s.unlisted r n).list.Sublist (s.station n).list := by
  unfold State.unlisted
  split
  · exact List.filter_sublist
  · exact .refl _

theorem unlisted_record (s : State) (r : ItemRecord) (n : StationNo) : (s.unlisted r n).record = (s.station n).record := by
  unfold State.unlisted
  split <;> rfl

theorem mem_unlisted (s : State) (r : ItemRecord) (n : StationNo) (w : Byte) :
    w ∈ (s.unlisted r n).list ↔ w ∈ (s.station n).list ∧
      ¬ (w = r.tag ∧ r.state = .committed ∧ r.verdict.map Verdict.station = some n) := by
  unfold State.unlisted
  split
  next hc => simp [hc]
  next hc => exact ⟨fun hm => ⟨hm, fun hw => hc hw.2⟩, And.left⟩

@[simp] theorem retire_record (u : Byte) (c : OutcomeCode) (s : State) (n : StationNo) :
    ((retire u c s).station n).record = (s.station n).record := by
  cases hf : s.liveRecord u with
  | none => rw [retire_absent hf]
  | some r => rw [retire_station hf, unlisted_record]

theorem State.Tidy.retire_keeps (h : s.Tidy) (u : Byte) (c : OutcomeCode) : (retire u c s).Tidy := by
  cases hf : s.liveRecord u with
  | none => rw [retire_absent hf]; exact h
  | some r =>
    obtain ⟨-, rfl, -⟩ := liveRecord_spec hf
    refine h.shrink ?_ (fun n => ?_) (retire_engine _ c s) (retire_record _ c s)
    · rw [retire_announce hf]; exact List.filter_sublist
    · rw [retire_station hf]; exact unlisted_sublist s r n

theorem retire_sameAt (hw : w ≠ u) (c : OutcomeCode) (s : State) : SameAt w (retire u c s) s := by
  cases hf : s.liveRecord u with
  | none => rw [retire_absent hf]; exact .refl w s
  | some r =>
    obtain ⟨-, rfl, -⟩ := liveRecord_spec hf
    constructor
    case records =>
      intro x hx
      have hne := hx.trans_ne hw
      obtain ⟨hi, -⟩ | ⟨hi, -⟩ := retire_table (c := c) hf <;> rw [hi]
      · simp [hne]
      · exact mem_modifyRecord_other (by exact fun _ => rfl) hne
    case announce => intro hm; rw [retire_announce hf] at hm; exact (List.mem_filter.1 hm).1
    case list => intro n; simp [retire_station hf, mem_unlisted, hw]
    case engine => intro n q _; rw [retire_engine]

/-- A record that retires is named no more, where no engine is ON for it and no list but its own names it. -/
theorem retire_unnamed (hf : s.liveRecord r.tag = some r) (c : OutcomeCode)
    (hlist : ∀ n, r.tag ∈ (s.station n).list → r.state = .committed ∧ r.verdict.map Verdict.station = some n)
    (heng : ∀ n q, (s.station n).engine = .on q → q.tag ≠ r.tag) : (retire r.tag c s).Unnamed r.tag where
  announce := by simp [retire_announce hf]
  list n hm := by
    rw [retire_station hf, mem_unlisted] at hm
    exact hm.2 ⟨rfl, hlist n hm.1⟩
  engine n q hq := by
    rw [retire_engine] at hq
    exact heng n q hq

/-- A retirement at `a`, which has come from a routed state by changes of the tag that retires. -/
theorem State.Routed.change_retire (h : s.Routed) (hf : a.Filed P) (hr : r ∈ a.items) (hl : r.state ≠ .retired)
    (htidy : a.Tidy) (hsame : ∀ w, w ≠ r.tag → SameAt w a s) (c : OutcomeCode)
    (hlist : ∀ n, r.tag ∈ (a.station n).list → r.state = .committed ∧ r.verdict.map Verdict.station = some n)
    (heng : ∀ n q, (a.station n).engine = .on q → q.tag ≠ r.tag) : (retire r.tag c a).Routed := by
  have hun := retire_unnamed (hf.table.liveRecord_eq hr (ItemRecord.isLive_iff.2 hl)) c hlist heng
  refine h.change (htidy.retire_keeps r.tag c) r.tag (fun w hw => (retire_sameAt hw c a).trans (hsame w hw)) (fun x hx ht => ?_)
    fun _ => hun
  obtain ⟨hs, -⟩ := hf.mem_retire_own hr hl hx ht
  exact State.Unnamed.routes (ht ▸ hun) (by simp [hs]) (by simp [hs])

/-- A retirement of a record that no engine fires. -/
theorem State.Routed.retire_keeps (h : s.Routed) (hf : s.Filed P) (hs : ∀ x ∈ s.items, x.tag = u → x.state ≠ .firing)
    (c : OutcomeCode) : (retire u c s).Routed := by
  cases hlive : s.liveRecord u with
  | none => rw [retire_absent hlive]; exact h
  | some r =>
    obtain ⟨hr, rfl, hl⟩ := liveRecord_spec hlive
    have hroutes := h.records r hr
    exact h.change_retire hf hr (ItemRecord.isLive_iff.1 hl) h.tidy (fun w _ => .refl w s) c (fun n => (hroutes.listed n).1)
      fun n q hq ht => hs r hr rfl (hroutes.fires n q hq ht).1

theorem State.Routed.unmoved (h : s.Routed) (hu : Unmoved t s) : t.Routed :=
  h.of_same (h.tidy.shrink (by rw [hu.announce]) (fun n => by rw [hu.list]) hu.engine hu.record) hu.sameAt

theorem State.Routed.retireAndCheck_keeps (h : s.Routed) (hf : s.Filed P)
    (hs : ∀ x ∈ s.items, x.tag = u → x.state ≠ .firing) (c : OutcomeCode) : (retireAndCheck u c s).Routed :=
  (h.retire_keeps hf hs c).unmoved (drainCheck_unmoved _)

end

end Sys2Proof.Machine
end

section
/-! The announce list, the station lists and the engines over the events of the engines: ticks, pulse ends and arrivals
(R121 to R129). -/

namespace Sys2Proof.Machine

section
variable {P : ItemRecord → Prop} {s t a : State} {r : ItemRecord} {u : Byte} {n : StationNo} {q : Pulse} {o : Order}

theorem State.Filed.setStation_keeps (h : s.Filed P) (n : StationNo) (x : Station) : (s.setStation n x).Filed P :=
  ⟨h.table, h.backlog, h.records⟩

/-! ### Pulses and recoveries (R123, R126, R127) -/

/-- The record of an engine that is ON. -/
theorem State.Routed.on_record (h : s.Routed) (hq : (s.station n).engine = .on q) :
    ∃ r ∈ s.items, r.tag = q.tag ∧ r.state = .firing ∧ r.verdict.map Verdict.station = some n ∧
      r.firing.map Firing.onTicks = some q.onTicks := h.engineLaw.1 n q hq

theorem Station.afterPulse_ne_disabled (x : Station) : x.afterPulse ≠ .disabled := by
  unfold Station.afterPulse
  split <;> simp

theorem State.Routed.pulseEnd_keeps (h : s.Routed) (hc : s.Coupled P) (hq : (s.station n).engine = .on q) (c : OutcomeCode) :
    (pulseEnd n q.tag c s).Routed := by
  obtain ⟨r, hr, hrt, hrs, -⟩ := h.on_record hq
  have hroutes := h.records r hr
  have hoff := Station.afterPulse_ne_on (s.station n)
  rw [pulseEnd_eq, retireAndCheck, ← hrt]
  refine (h.change_retire (hc.toFiled.setStation_keeps n _) hr (by simp [hrs]) ?_ (fun w hw => ?_) c (fun m hm => ?_)
    fun m q' hq' ht => ?_).unmoved (drainCheck_unmoved _)
  · exact h.tidy.setEngine_keeps (h.tidy.list n) rfl (by simp [hq]) (Station.afterPulse_ne_disabled _)
  · refine sameAt_setStation .rfl fun q' ht => iff_of_false (hoff q') fun hq' => hw ?_
    rw [hq] at hq'
    rw [← ht, ← Engine.on.inj hq', hrt]
  · refine (hroutes.listed m).1 ?_
    rw [station_setStation] at hm
    split at hm
    next e => exact e ▸ hm
    next => exact hm
  · rw [station_setStation] at hq'
    split at hq'
    next => exact hoff q' hq'
    next hne => exact hne (hc.pulses.2 n m q q' hq hq' (ht.trans hrt))

/-- A recovery that counts down or ends. -/
theorem State.Routed.recovery_keeps (h : s.Routed) {c : Half} (hs : (s.station n).engine = .recovery c) {e : Engine}
    (hon : ∀ q, e ≠ .on q) (hd : e ≠ .disabled) : (s.setStation n { s.station n with engine := e }).Routed :=
  h.of_same (h.tidy.setEngine_keeps (h.tidy.list n) rfl (by simp [hs]) hd) fun _ =>
    sameAt_setStation .rfl fun q _ => iff_of_false (hon q) (by simp [hs])

/-- An engine that is ON counts a tick, and the record it fires with it (R123). -/
theorem State.Routed.onTick_keeps (h : s.Routed) (hc : s.Coupled P) (hq : (s.station n).engine = .on q) (c : Half) :
    ((s.setStation n { s.station n with engine := .on { q with onTicks := c } }).modifyRecord q.tag
      (fun r => { r with firing := r.firing.map (fun f => { f with onTicks := c }) })).Routed := by
  obtain ⟨r, hr, hrt, hrs, hrv, hrf⟩ := h.on_record hq
  have hroutes := h.records r hr
  obtain ⟨_, rule, ticks⟩ := q
  subst hrt
  have htidy : (s.setStation n { s.station n with engine := .on ⟨r.tag, rule, c⟩ }).Tidy :=
    h.tidy.setEngine_keeps (h.tidy.list n) rfl (by simp [hq]) (by simp)
  refine h.change_record (hc.toFiled.setStation_keeps n _) hr (by exact fun _ => rfl) (fun w hw => ?_)
    ?_ ?_
  · refine sameAt_setStation .rfl fun q' ht => ?_
    rw [hq, Engine.on.injEq, Engine.on.injEq]
    exact iff_of_false (fun e => hw (by rw [← ht, ← e])) fun e => hw (by rw [← ht, ← e])
  · exact htidy.congr rfl rfl
  · constructor
    case announced => exact hroutes.announced
    case listed =>
      intro m
      refine Iff.trans ?_ (hroutes.listed m)
      rw [station_modifyRecord, station_setStation]
      split
      next e => rw [e]
      next => exact .rfl
    case fires =>
      intro m q' hq' ht
      rw [station_modifyRecord, station_setStation] at hq'
      split at hq'
      next e =>
        obtain rfl := Engine.on.inj hq'
        obtain ⟨f, hf, -⟩ := Option.map_eq_some_iff.1 hrf
        exact ⟨hrs, e ▸ hrv, by simp [hf]⟩
      next hne => exact absurd (hc.pulses.2 n m _ q' hq hq' ht) hne
    case fired =>
      intro _
      refine ⟨n, ⟨r.tag, rule, c⟩, hrv, ?_, rfl⟩
      rw [station_modifyRecord, station_setStation_self]

theorem State.Routed.engineTick_keeps (h : s.Routed) (hc : s.Coupled P) (n : StationNo) : (engineTick n s).Routed := by
  unfold engineTick
  simp only
  split
  next q hq => exact h.onTick_keeps hc hq _
  next c hs => exact h.recovery_keeps hs (by simp) (by simp)
  next => exact h
  next => exact h

/-! ### Arrivals (R121, R122) -/

/-- The tag that arrives is the head of its list. -/
theorem arriving_list (ha : s.arriving n = some (u, o)) : ∃ rest, (s.station n).list = u :: rest := by
  unfold State.arriving at ha
  split at ha
  next => simp at ha
  next u' hu =>
    obtain ⟨rest, hl⟩ := List.head?_eq_some_iff.1 hu
    split at ha
    next => simp at ha
    next =>
      split at ha
      next =>
        split at ha
        next =>
          obtain ⟨rfl, -⟩ := Prod.mk.inj (Option.some.inj ha)
          exact ⟨rest, hl⟩
        next => simp at ha
      next => simp at ha

theorem State.Routed.startPulse_keeps (h : s.Routed) (hf : s.Filed P) (ha : s.arriving n = some (u, o))
    (hoff : (s.station n).engine = .offReady) : (startPulse n u o s).Routed := by
  obtain ⟨r, hr, rfl, hrs⟩ := arriving_spec ha
  obtain ⟨rest, hlist⟩ := arriving_list ha
  have hroutes := h.records r hr
  obtain ⟨-, hrv⟩ := (hroutes.listed n).1 (by simp [hlist])
  obtain ⟨hnew, hrest⟩ := List.nodup_cons.1 (hlist ▸ h.tidy.list n)
  unfold startPulse
  simp only [hlist, List.tail_cons]
  refine h.change_record (hf.setStation_keeps n _) hr (by exact fun _ => rfl) (fun w hw => ?_) ?_ ?_
  · refine sameAt_setStation (by simp [hlist, hw]) fun q ht => iff_of_false (fun e => ?_) (by simp [hoff])
    obtain rfl := Engine.on.inj e
    exact hw ht.symm
  · refine State.Tidy.congr (h.tidy.setEngine_keeps (n := n) ?_ ?_ (by simp [hoff]) ?_) rfl rfl
    exacts [hrest, rfl, by simp]
  · constructor
    case announced => exact fun hm => absurd (hroutes.announced hm) (by simp [hrs])
    case listed =>
      intro m
      refine iff_of_false (fun hm => ?_) (by simp)
      rw [station_modifyRecord, station_setStation] at hm
      split at hm
      next => exact hnew hm
      next hne =>
        obtain ⟨-, hrm⟩ := (hroutes.listed m).1 hm
        exact hne (Option.some.inj (hrm.symm.trans hrv))
    case fires =>
      intro m q hq ht
      rw [station_modifyRecord, station_setStation] at hq
      split at hq
      next e =>
        obtain rfl := Engine.on.inj hq
        exact ⟨rfl, e ▸ hrv, rfl⟩
      next =>
        have := (hroutes.fires m q hq ht).1
        simp [hrs] at this
    case fired =>
      intro _
      refine ⟨n, ⟨r.tag, endRuleOf o.width (s.station n).record.maxOn, 0⟩, hrv, ?_, rfl⟩
      rw [station_modifyRecord, station_setStation_self]

theorem State.Routed.collide_keeps (h : s.Routed) (hf : s.Filed P) (ha : s.arriving n = some (u, o)) : (collide n u s).Routed := by
  obtain ⟨r, hr, rfl, hrs⟩ := arriving_spec ha
  obtain ⟨rest, hlist⟩ := arriving_list ha
  have hroutes := h.records r hr
  have hsub : ∀ m, (((s.setStation n { s.station n with list := (s.station n).list.tail }).station m).list).Sublist
      (s.station m).list := fun m => by
    rw [station_setStation]
    split
    next e => exact e ▸ List.tail_sublist _
    next => exact .refl _
  have hengine : ∀ m, ((s.setStation n { s.station n with list := (s.station n).list.tail }).station m).engine =
      (s.station m).engine := fun m => by rw [station_setStation]; split <;> simp [*]
  have hrecord : ∀ m, ((s.setStation n { s.station n with list := (s.station n).list.tail }).station m).record =
      (s.station m).record := fun m => by rw [station_setStation]; split <;> simp [*]
  refine (h.change_retire (hf.setStation_keeps n _) hr (by simp [hrs]) (h.tidy.shrink (.refl _) hsub hengine hrecord)
    (fun w hw => sameAt_setStation (by simp [hlist, hw]) fun _ _ => .rfl) .collided
    (fun m hm => (hroutes.listed m).1 ((hsub m).mem hm)) fun m q hq ht => ?_).unmoved (drainCheck_unmoved _)
  rw [hengine] at hq
  have := (hroutes.fires m q hq ht).1
  simp [hrs] at this

end

end Sys2Proof.Machine
end

section
/-! The announce list, the station lists and the engines over the events of the records, halt entry and the commands. -/

namespace Sys2Proof.Machine

section
variable {P : ItemRecord → Prop} {s t a : State} {r : ItemRecord} {u : Byte} {us : List Byte} {c : OutcomeCode} {v : Verdict}
  {on : Pos}

/-! ### Bumps (R114 step 1) -/

/-- The table and the backlog after a retirement, whatever the records meet. -/
theorem State.Filed.retireAndCheck_keeps (h : s.Filed P) (u : Byte) (c : OutcomeCode) :
    (retireAndCheck u c s).Filed fun _ => True := by
  have htrue : ∀ b : State, ∀ x ∈ b.items, True := fun _ _ _ => trivial
  have hretire : (retire u c s).Filed fun _ => True := by
    cases hf : s.liveRecord u with
    | none => rw [retire_absent hf]; exact ⟨h.table, h.backlog, htrue s⟩
    | some r =>
      obtain ⟨hr, rfl, hl⟩ := liveRecord_spec hf
      exact h.change (h.oneRecord_retire hr (ItemRecord.isLive_iff.1 hl) c) (htrue _)
  have hcheck := drainCheck_unmoved (retire u c s)
  obtain ⟨htable, hbacklog, -⟩ := hretire
  refine ⟨?_, ?_, htrue _⟩
  · simpa only [retireAndCheck, State.tableLaw, hcheck.items] using htable
  · simpa only [retireAndCheck, State.backlogLaw, hcheck.items, hcheck.backlog] using hbacklog

theorem State.Bumpable.retireAndCheck_keeps (hb : s.Bumpable (u :: us)) (h : s.Filed P) :
    (retireAndCheck u c s).Bumpable us := by
  intro x hx hm
  by_cases ht : x.tag = u
  · exact .inr (h.retired_of_retireAndCheck hx ht)
  · exact hb x ((h.mem_retireAndCheck ht).1 hx) (.tail _ hm)

theorem State.Bumpable.not_firing (hb : s.Bumpable (u :: us)) : ∀ x ∈ s.items, x.tag = u → x.state ≠ .firing := by
  rintro x hx rfl hs
  obtain hb | hb := hb x hx (.head _) <;> simp [hs] at hb

/-- The bumps keep the laws, and the records that they do not name. -/
theorem State.Routed.bumpAll_keeps (h : s.Routed) (hf : s.Filed fun _ => True) (hb : s.Bumpable us) :
    (bumpAll us s).Routed ∧ ((bumpAll us s).Filed fun _ => True) ∧
      ∀ x, x.tag ∉ us → (x ∈ (bumpAll us s).items ↔ x ∈ s.items) := by
  induction us generalizing s with
  | nil => exact ⟨h, hf, fun _ _ => .rfl⟩
  | cons u us ih =>
    obtain ⟨hr, hfiled, hi⟩ := ih (h.retireAndCheck_keeps hf hb.not_firing .bumped) (hf.retireAndCheck_keeps u .bumped)
      (hb.retireAndCheck_keeps hf)
    refine ⟨hr, hfiled, fun x hx => ?_⟩
    obtain ⟨hu, hus⟩ : x.tag ≠ u ∧ x.tag ∉ us := by simpa using hx
    exact (hi x hus).trans (hf.mem_retireAndCheck hu)

theorem bumpAll_record (us : List Byte) (s : State) (n : StationNo) :
    ((bumpAll us s).station n).record = (s.station n).record :=
  foldl_keeps (fun a => (a.station n).record) _
    (fun a u => ((drainCheck_unmoved (retire u .bumped a)).record n).trans (retire_record u .bumped a n)) us s

/-! ### The commit (R81, R114 step 2) -/

/-- An insertion between the nearer and the farther orders adds the one order. -/
theorem insert_perm (p : Byte → Bool) (u : Byte) (l : List Byte) :
    (l.takeWhile p ++ u :: l.dropWhile p).Perm (u :: l) := by
  simpa only [List.takeWhile_append_dropWhile] using List.perm_middle (a := u) (l₁ := l.takeWhile p) (l₂ := l.dropWhile p)

/-- A PENDING record is in no station list. -/
theorem State.Routes.not_listed (h : s.Routes r) (hs : r.state = .pending) (n : StationNo) : r.tag ∉ (s.station n).list := by
  intro hm
  have := ((h.listed n).1 hm).1
  simp [hs] at this

theorem State.Routed.commit_keeps (h : s.Routed) (hf : s.Filed P) (hr : r ∈ s.items) (hs : r.state = .pending) (o : Order)
    (hen : (s.station v.station).record.enable = true) : (commit r.tag v o s).Routed := by
  have hroutes := h.records r hr
  have hdropf : (s.dropAnnounce r.tag).Filed P := ⟨hf.table, hf.backlog, hf.records⟩
  have hdrop : (s.dropAnnounce r.tag).Tidy :=
    h.tidy.shrink List.filter_sublist (fun _ => .refl _) (fun _ => rfl) fun _ => rfl
  have hengine : (s.station v.station).engine ≠ .disabled := fun hd => by
    simp [(h.tidy.enable v.station).2 hd] at hen
  have hperm := insert_perm ((s.dropAnnounce r.tag).nearer o.onPos) r.tag (s.station v.station).list
  unfold commit State.insertOrder
  simp only [station_dropAnnounce]
  refine h.change_record (hdropf.setStation_keeps v.station _) hr
    (by exact fun _ => rfl) (fun w hw => ?_) ?_ ?_
  · refine SameAt.trans (sameAt_setStation ?_ fun _ _ => .rfl) (sameAt_dropAnnounce w r.tag s)
    exact hperm.mem_iff.trans (List.mem_cons.trans (or_iff_right hw))
  · refine State.Tidy.congr (hdrop.setEngine_keeps (n := v.station) ?_ ?_ hengine ?_) rfl rfl
    · exact hperm.nodup_iff.2 (List.nodup_cons.2 ⟨hroutes.not_listed hs _, h.tidy.list _⟩)
    · rfl
    · exact hengine
  · constructor
    case announced => exact fun hm => by simp [State.dropAnnounce] at hm
    case listed =>
      intro n
      rw [station_modifyRecord, station_setStation]
      split
      next e => exact iff_of_true (hperm.mem_iff.2 (.head _)) ⟨rfl, by simp [e]⟩
      next hne => exact iff_of_false (hroutes.not_listed hs n) fun hv => hne (Option.some.inj hv.2).symm
    case fires =>
      intro n q hq ht
      rw [station_modifyRecord, station_setStation] at hq
      have hq' : (s.station n).engine = .on q := by
        split at hq
        next e => exact e ▸ hq
        next => exact hq
      have := (hroutes.fires n q hq' ht).1
      simp [hs] at this
    case fired => exact fun hfir => by simp at hfir

/-- A placement that won: the bumps, then the commit (R114). -/
theorem State.Routed.place_keeps (h : s.Routed) (hf : s.Filed P) (hr : r ∈ s.items) (hs : r.state = .pending)
    (hen : (s.station v.station).record.enable = true) (ha : s.arbitrate r.tag v on = some us) (o : Order) :
    (place r.tag v o us s).Routed := by
  have hrn : r.tag ∉ us := fun hm => by simp [arbitrate_bumpable hf.table ha hr hm] at hs
  obtain ⟨hrouted, hfiled, hi⟩ := h.bumpAll_keeps ⟨hf.table, hf.backlog, fun _ _ => trivial⟩
    fun x hx hm => .inl (arbitrate_bumpable hf.table ha hx hm)
  exact hrouted.commit_keeps hfiled ((hi r hrn).2 hr) hs o (by rwa [bumpAll_record])

/-! ### The deadline (R60) -/

/-- A PENDING record takes the verdict of its default (R60 step 1). -/
theorem State.Routed.takeVerdict_keeps (h : s.Routed) (hf : s.Filed P) (hr : r ∈ s.items) (hs : r.state = .pending)
    (v : Verdict) : (s.modifyRecord r.tag fun x => { x with verdict := some v }).Routed := by
  have hroutes := h.records r hr
  refine h.change_record hf hr (by exact fun _ => rfl) (fun w _ => .refl w s) (h.tidy.congr rfl rfl) ?_
  constructor
  case announced => exact hroutes.announced
  case listed =>
    intro n
    refine iff_of_false (hroutes.not_listed hs n) fun hc => ?_
    have : r.state = .committed := hc.1
    simp [hs] at this
  case fires =>
    intro n q hq ht
    have := (hroutes.fires n q hq ht).1
    simp [hs] at this
  case fired =>
    intro hfir
    have : r.state = .firing := hfir
    simp [hs] at this

theorem State.Routed.defaultEject_keeps (h : s.Routed) (hf : s.Filed P) (hr : r ∈ s.items) (hs : r.state = .pending) :
    (defaultEject r s).Routed := by
  obtain ⟨v, hv⟩ : ∃ v, v = defaultVerdict r.snapshot := ⟨_, rfl⟩
  have h' := h.takeVerdict_keeps hf hr hs v
  have hf' : (s.modifyRecord r.tag fun x => { x with verdict := some v }).Filed fun _ => True :=
    hf.change (hf.oneRecord_modifyRecord hr (by simp [hs]) (by exact fun _ => rfl) (by simp [hs])) fun _ _ => trivial
  have hr' : { r with verdict := some v } ∈ (s.modifyRecord r.tag fun x => { x with verdict := some v }).items :=
    mem_modifyRecord.2 (.inr ⟨r, hr, rfl, rfl⟩)
  have hret : ∀ c, (retireAndCheck r.tag c (s.modifyRecord r.tag fun x => { x with verdict := some v })).Routed :=
    h'.retireAndCheck_keeps hf' fun x hx ht => by simp [hf.mem_modifyRecord_own hr hx ht, hs]
  unfold defaultEject
  simp only [← hv]
  split
  next => exact hret _
  next hst =>
    split
    next => exact hret _
    next =>
      split
      next => exact hret _
      next ha =>
        refine h'.place_keeps (r := { r with verdict := some v }) hf' hr' hs ?_ ha _
        obtain ⟨hen, -⟩ := not_or.1 hst
        simpa using hen

/-! ### The slots (R40, R41, R53) -/

theorem State.Routed.allocate_keeps (h : s.Routed) (hlen : s.items.length < 32) (l : LaneNo) : (allocate l s).Routed := by
  have hfresh := nextTag_fresh (s := s) (by omega)
  have hun : (allocate l s).Unnamed s.nextTag := (h.absent _ hfresh).congr rfl rfl
  have hmem : ∀ x, x ∈ (allocate l s).items ↔ x ∈ s.items ∨ x = newRecord s.nextTag l s.p (s.lane l).record.item := fun x => by
    simp [allocate]
  refine h.change (h.tidy.congr rfl rfl) s.nextTag (fun w hw => ?_) (fun x hx ht => ?_) fun hn => ?_
  · refine ⟨fun x hx => (hmem x).trans (or_iff_left ?_), id, fun _ => .rfl, fun _ _ _ => .rfl⟩
    rintro rfl
    exact hw hx.symm
  · obtain hx | rfl := (hmem x).1 hx
    · exact absurd ht (hfresh x hx)
    · exact hun.routes (by simp [newRecord]) (by simp [newRecord])
  · exact hun

/-- The slot of a MEASURING or RETIRED record becomes free. -/
theorem State.Routed.freeSlot_keeps (h : s.Routed) (hf : s.Filed P) (hr : r ∈ s.items)
    (hs : r.state = .measuring ∨ r.state = .retired) : (s.freeSlot r.tag).Routed := by
  refine h.forget rfl rfl (fun x hx => (mem_freeSlot.1 hx).1) fun x hx hn => ?_
  have ht : x.tag = r.tag := by
    by_contra hne
    exact hn (mem_freeSlot.2 ⟨hx, hne⟩)
  rwa [hf.table.tag_inj hr hx ht]

/-- The end of a measurement: the record is PENDING and announced (R41). -/
theorem State.Routed.announce_keeps (h : s.Routed) (hf : s.Filed P) (hr : r ∈ s.items) (hs : r.state = .measuring) (len : Half) :
    ({ s.modifyRecord r.tag (fun x => { x with length := some len, state := .pending }) with
      announce := s.announce ++ [r.tag] } : State).Routed := by
  have hun := (h.records r hr).unnamed (.inl hs)
  refine State.Routed.change_record (a := { s with announce := s.announce ++ [r.tag] })
    (f := fun x => { x with length := some len, state := .pending }) (P := P) h ⟨hf.table, hf.backlog, hf.records⟩ hr
    (fun _ => rfl) (fun w hw => ⟨fun _ _ => .rfl, fun hm => ?_, fun _ => .rfl, fun _ _ _ => .rfl⟩) ?_ ?_
  · exact (List.mem_append.1 hm).resolve_right fun e => hw (List.mem_singleton.1 e)
  · obtain ⟨hann, hlist, hen, hcl⟩ := h.tidy
    refine ⟨?_, hlist, hen, hcl⟩
    exact List.nodup_append.2 ⟨hann, List.nodup_singleton _, fun w hw x hx e =>
      hun.announce (by rwa [← List.mem_singleton.1 hx, ← e])⟩
  · constructor
    case announced => exact fun _ => rfl
    case listed => exact fun n => iff_of_false (hun.list n) (by simp)
    case fires => exact fun n q hq ht => absurd ht (hun.engine n q hq)
    case fired => exact fun hfir => by simp at hfir

/-! ### Halt entry (R22) -/

theorem State.announceLaw.retire_keeps (h : s.announceLaw) (hf : s.Filed P) (u : Byte) (c : OutcomeCode) :
    (retire u c s).announceLaw := by
  cases hlive : s.liveRecord u with
  | none => rw [retire_absent hlive]; exact h
  | some r =>
    obtain ⟨hr, rfl, hl⟩ := liveRecord_spec hlive
    have hann := retire_announce hlive c
    refine ⟨hann ▸ h.1.filter _, fun w hw => ?_⟩
    obtain ⟨hw, hne⟩ := List.mem_filter.1 (hann ▸ hw)
    obtain ⟨x, hx, hxw, hxs⟩ := h.2 w hw
    have hxr : x.tag ≠ r.tag := by simpa [hxw] using hne
    exact ⟨x, ((hf.oneRecord_retire hr (ItemRecord.isLive_iff.1 hl) c).others x hxr).2 hx, hxw, hxs⟩

theorem State.announceLaw.retireAll_keeps (h : s.announceLaw) (hf : s.Filed ItemRecord.presence) (us : List Byte)
    (c : OutcomeCode) : (us.foldl (fun a u => retire u c a) s).announceLaw := by
  induction us generalizing s with
  | nil => exact h
  | cons u us ih => exact ih (h.retire_keeps hf u c) (hf.retire_keeps u c)

/-- With nothing live nothing is announced (R62). -/
theorem State.announceLaw.announce_nil (h : s.announceLaw) (hlive : s.hasLive = false) : s.announce = [] := by
  refine List.eq_nil_iff_forall_not_mem.2 fun u hu => ?_
  obtain ⟨r, hr, -, hs⟩ := h.2 u hu
  simp [State.hasLive_eq_false.1 hlive r hr] at hs

theorem State.Routed.haltEntry_keeps (h : s.Routed) (hf : s.Filed ItemRecord.presence) (cause : HaltCause) :
    (haltEntry cause s).Routed := by
  have hlive : (haltEntry cause s).hasLive = false := ((hf.haltEntry_coupled cause).rest (.inr (haltEntry_run cause s))).1
  have hretire : (haltEntry cause s).announceLaw :=
    State.announceLaw.retireAll_keeps (s := { s with run := .halt, haltCause := cause }) h.announceLaw
      ⟨hf.table, hf.backlog, hf.records⟩ _ .halted
  have hann := hretire.announce_nil hlive
  have hlist : ∀ n, ((haltEntry cause s).station n).list = [] := fun n => by rw [haltEntry_station, Station.atHalt]
  have hengine : ∀ n, ((haltEntry cause s).station n).engine = (s.station n).engine.atHalt := fun n => by
    rw [haltEntry_station, Station.atHalt]
  have hrecord : ∀ n, ((haltEntry cause s).station n).record = (s.station n).record := fun n => by
    rw [haltEntry_station, Station.atHalt]
  have hun : ∀ w, (haltEntry cause s).Unnamed w := fun w => by
    refine ⟨by simp [hann], fun n => by simp [hlist], fun n q hq => ?_⟩
    rw [hengine] at hq
    simpa [hq, Engine.isOn] using Engine.atHalt_isOn (s.station n).engine
  constructor
  case tidy =>
    refine ⟨by simp [hann], fun n => by simp [hlist], fun n => ?_, fun n _ => hlist n⟩
    rw [hrecord, hengine, h.tidy.enable n, Engine.atHalt_eq]
    split <;> simp [*]
  case records =>
    intro x hx
    have hs := State.hasLive_eq_false.1 hlive x hx
    exact (hun x.tag).routes (by simp [hs]) (by simp [hs])
  case absent => exact fun w _ => hun w

/-! ### The commands -/

/-- The fields beside the records, the announce list and the stations are no part of the laws. -/
theorem State.Routed.congr (h : s.Routed) (hi : t.items = s.items) (ha : t.announce = s.announce)
    (hst : t.stations = s.stations) : t.Routed :=
  h.forget ha hst (fun _ hx => hi ▸ hx) fun _ hx hn => absurd hx (hi ▸ hn)

theorem State.Routed.promote_keeps (h : s.Routed) (hf : s.Filed P) : (promote s).Routed := by
  cases hb : s.backlog with
  | nil => rw [promote_none (.inl hb)]; exact h
  | cons u us =>
    by_cases hq : s.queue.length < 16
    · obtain ⟨r, hr, rfl, hs⟩ := (hf.backlog.2 u).1 (by simp [hb])
      rw [promote_head hb hq (hf.table.heldRecord_eq hr)]
      exact (h.freeSlot_keeps hf hr (.inr hs)).congr rfl rfl rfl
    · rw [promote_none (.inr (Nat.not_lt.1 hq))]; exact h

theorem State.Routed.doNextOutcome_keeps (h : s.Routed) (hf : s.Filed P) : (doNextOutcome s).2.Routed := by
  cases hq : s.queue with
  | nil => rw [doNextOutcome_empty hq]; exact h
  | cons o rest =>
    rw [doNextOutcome_head hq]
    exact State.Routed.promote_keeps (P := P) (h.congr rfl rfl rfl) ⟨hf.table, hf.backlog, hf.records⟩

theorem State.Routed.doNextDetection_keeps (h : s.Routed) : (doNextDetection s).2.Routed := by
  unfold doNextDetection
  split
  next => exact h
  next u rest hann =>
    split
    next => exact h
    next =>
      refine h.of_same (h.tidy.shrink ?_ (fun _ => .refl _) (fun _ => rfl) fun _ => rfl) fun w =>
        ⟨fun _ _ => .rfl, fun hm => ?_, fun _ => .rfl, fun _ _ _ => .rfl⟩
      · exact hann ▸ List.sublist_cons_self u rest
      · exact hann ▸ List.mem_cons_of_mem u hm

theorem State.Routed.doClearLine_keeps (h : s.Routed) : (doClearLine s).2.Routed := by
  unfold doClearLine
  split
  · exact h
  · refine h.forget rfl rfl (fun x hx => (List.mem_filter.1 hx).1) fun x hx hn => .inr ?_
    by_contra hs
    exact hn (List.mem_filter.2 ⟨hx, ItemRecord.isLive_iff.2 hs⟩)

/-- A station that is not busy has an empty list and an engine at rest (R98). -/
theorem Station.not_busy {x : Station} (h : x.busy = false) : x.list = [] ∧ (x.engine = .disabled ∨ x.engine = .offReady) := by
  unfold Station.busy at h
  obtain ⟨hl, he⟩ := Bool.or_eq_false_iff.1 h
  refine ⟨by simpa using hl, ?_⟩
  cases hx : x.engine <;> simp [hx] at he ⊢

/-- An engine at rest follows the new ENABLE (R99). -/
theorem Engine.withEnable_eq {e : Engine} (h : e = .disabled ∨ e = .offReady) (b : Bool) :
    e.withEnable b = if b then .offReady else .disabled := by
  obtain rfl | rfl := h <;> cases b <;> rfl

theorem State.Routed.doSetStation_keeps (h : s.Routed) : (doSetStation s).2.Routed := by
  unfold doSetStation
  split
  next => exact h
  next n x _ =>
    simp only
    split
    next => exact h
    next hbusy =>
      obtain ⟨hlist, heng⟩ := Station.not_busy (Bool.eq_false_iff.2 hbusy)
      rw [Engine.withEnable_eq heng]
      refine h.of_same (h.tidy.setStation_keeps (h.tidy.list n) ?_ fun _ => hlist) fun w =>
        sameAt_setStation .rfl fun q _ => iff_of_false ?_ ?_
      · cases x.enable <;> simp
      · cases x.enable <;> simp
      · obtain e | e := heng <;> simp [e]

theorem State.Routed.doSetFreeThreshold_keeps (h : s.Routed) : (doSetFreeThreshold s).2.Routed := by
  unfold doSetFreeThreshold
  split
  · exact h
  · exact h.congr rfl rfl rfl

theorem routed_eventLaw : EventLaw State.Routed where
  unmoved hu h := h.unmoved hu
  reset := sound_reset.routed
  retire hc h hr _ hs c := h.retire_keeps hc.toFiled (fun x hx ht => hc.table.tag_inj hr hx ht ▸ hs) c
  pulseEnd hc h hq c := h.pulseEnd_keeps hc hq c
  recoveryEnd h hq := h.recovery_keeps hq (by simp) (by simp)
  engineTick hc h n := h.engineTick_keeps hc n
  startPulse hc h ha hoff := h.startPulse_keeps hc.toFiled ha hoff
  collide hc h ha := h.collide_keeps hc.toFiled ha
  defaultEject hc h hr hs := h.defaultEject_keeps hc.toFiled hr hs
  place hc h hr hs hen ha o := h.place_keeps hc.toFiled hr hs hen ha o
  allocate _ h hlen l := h.allocate_keeps hlen l
  discard hc h hr hs := h.freeSlot_keeps hc.toFiled hr (.inl hs)
  announce hc h hr hs len := h.announce_keeps hc.toFiled hr hs len
  haltEntry hc h cause := h.haltEntry_keeps hc.toFiled cause
  promote hc h := h.promote_keeps hc.toFiled
  nextOutcome hc h := h.doNextOutcome_keeps hc.toFiled
  nextDetection h := h.doNextDetection_keeps
  clearLine h := h.doClearLine_keeps
  setStation h := h.doSetStation_keeps
  setFreeThreshold h := h.doSetFreeThreshold_keeps
  writeFlags h _ := h.congr rfl rfl rfl

end

/-- Settles O58: the laws, told record by record, by the walk over the events. -/
theorem stepKeepsListsAndEngines : Obligations.StepKeepsListsAndEngines := by
  intro s t hs ht
  have h := (State.Holds.step ⟨hs.coupled, hs.routed⟩ routed_eventLaw ht).law
  exact ⟨h.announceLaw, h.listLaw, h.engineLaw⟩

end Sys2Proof.Machine
end

section
/-! NEXT_DETECTION and READ_ITEM: the head of the announce list, and the record of a tag, as their replies tell them (R64, R67). -/

namespace Sys2Proof.Machine

section
variable {s : State} {r : ItemRecord} {u : Byte}

/-! ### NEXT_DETECTION (R64) -/

/-- The detection reply has STAMP as the low bytes of LEAD (R56, R158). -/
theorem detectionReply_eq {len : Half} (h : r.length = some len) :
    detectionReply r = #v[r.tag, BitVec.ofNat 8 r.lane.val,
                        r.lead.extractLsb' 0 8, r.lead.extractLsb' 8 8, r.lead.extractLsb' 16 8,
                        r.lead.extractLsb' 0 8, r.lead.extractLsb' 8 8,
                        len.extractLsb' 0 8, len.extractLsb' 8 8, 0, 0, 0, 0, 0, 0, 0] := by
  have hlow : r.stamp.extractLsb' 0 8 = r.lead.extractLsb' 0 8 := by
    ext i hi
    simp [ItemRecord.stamp, show i < 16 by omega]
  have hhigh : r.stamp.extractLsb' 8 8 = r.lead.extractLsb' 8 8 := by
    ext i hi
    simp [ItemRecord.stamp, show 8 + i < 16 by omega]
  unfold detectionReply halfBytes
  rw [hlow, hhigh, h]
  rfl

theorem doNextDetection_head {rest : List Byte} (ha : s.announce = u :: rest) (hr : s.heldRecord u = some r) :
    doNextDetection s = (.ok, { s with announce := rest, reply := detectionReply r }) := by
  simp [doNextDetection, ha, hr]

theorem doNextDetection_empty (h : s.announce = []) : doNextDetection s = (.empty, s) := by
  simp [doNextDetection, h, refuse]

/-- What is announced is a record of the table with its LENGTH (R41, R62). -/
theorem State.Sound.announced (h : s.Sound) (hu : u ∈ s.announce) :
    ∃ r ∈ s.items, ∃ len : Half, r.tag = u ∧ r.length = some len := by
  obtain ⟨r, hr, hru, hrs⟩ := h.announce.2 u hu
  have hp := h.presence r hr
  simp only [ItemRecord.presence, hrs] at hp
  obtain ⟨len, hlen⟩ := Option.ne_none_iff_exists'.1 hp.1
  exact ⟨r, hr, len, hru, hlen⟩

/-! ### READ_ITEM (R67) -/

/-- The age of the record in slot `k` of the age order (R51). -/
theorem State.tableLaw.age_eq (h : s.tableLaw) {k : Nat} (hk : s.items[k]? = some r) : s.age r.tag = k := by
  obtain ⟨hlt, hr⟩ := List.getElem?_eq_some_iff.1 hk
  refine (List.findIdx_eq hlt).2 ⟨by simp [hr], fun j hj => ?_⟩
  have hne : (s.items.map ItemRecord.tag)[j]'(by simp; omega) ≠ (s.items.map ItemRecord.tag)[k]'(by simpa) := fun e =>
    hj.ne ((h.2.getElem_inj_iff).1 e)
  simpa [hr] using hne

theorem itemPresence_eq (r : ItemRecord) :
    itemPresence r = (if r.verdict.isSome then 1 else 0) + (if r.length.isSome then 2 else 0) +
      (if r.order.isSome then 4 else 0) + (if r.firing.isSome then 8 else 0) + (if r.outcome.isSome then 16 else 0) := by
  rw [itemPresence, ← Nat.one_mul r.verdict.isSome.toNat]
  simp only [packed_add, packed_bit]
  rfl

theorem positionOfInterest_eq (r : ItemRecord) : positionOfInterest r = (r.order.map Order.onPos).getD r.d := by
  unfold positionOfInterest
  cases r.order <;> rfl

/-- A verdict source at bit 7 of the byte of the station (R159). -/
theorem packed_source (n : Nat) (x : VerdictSource) :
    packed (n + 128 * x.bit) = BitVec.ofNat 8 n + if x = .defaulted then 128 else 0 := by
  rw [packed_add]
  cases x <;> rfl

theorem itemReply_eq (r : ItemRecord) (k : Nat) :
    itemReply r k = #v[r.tag, BitVec.ofNat 8 r.lane.val, r.state.code, BitVec.ofNat 8 k,
                      (if r.verdict.isSome then 1 else 0) + (if r.length.isSome then 2 else 0) +
                        (if r.order.isSome then 4 else 0) + (if r.firing.isSome then 8 else 0) +
                        (if r.outcome.isSome then 16 else 0),
                      r.lead.extractLsb' 0 8, r.lead.extractLsb' 8 8, r.lead.extractLsb' 16 8,
                      (r.length.getD 0).extractLsb' 0 8, (r.length.getD 0).extractLsb' 8 8,
                      ((r.order.map Order.onPos).getD r.d).extractLsb' 0 8,
                      ((r.order.map Order.onPos).getD r.d).extractLsb' 8 8,
                      ((r.order.map Order.onPos).getD r.d).extractLsb' 16 8,
                      ((r.verdict.map (fun v => BitVec.ofNat 8 v.station.val +
                        (if v.source = .defaulted then 128 else 0))).getD 0 : Byte),
                      ((r.verdict.map (fun v => BitVec.ofNat 8 (v.profile.val + 16 * v.priority.val))).getD 0 : Byte),
                      (r.outcome.map OutcomeCode.code).getD 0] := by
  rw [← itemPresence_eq, ← positionOfInterest_eq]
  simp only [← packed_source]
  unfold itemReply
  cases r.verdict <;> cases r.outcome <;> rfl

theorem doReadItem_taken (h : s.heldRecord s.params[0] = some r) :
    doReadItem s = (.ok, { s with reply := itemReply r (s.age r.tag) }) := by
  simp [doReadItem, h]

theorem doReadItem_unknown (h : ∀ r ∈ s.items, r.tag ≠ s.params[0]) : doReadItem s = (.unknown, s) := by
  have hnone : s.heldRecord s.params[0] = none := List.find?_eq_none.2 fun r hr => by simpa using h r hr
  simp [doReadItem, hnone, refuse]

end

/-- Settles O37. -/
theorem nextDetectionTakesTheHead : Obligations.NextDetectionTakesTheHead := by
  refine fun s₀ s hreset hs => ⟨fun t rest hsound ha => ?_, fun ha => ?_⟩
  · obtain ⟨r, hr, len, rfl, hlen⟩ := hsound.announced (u := t) (by simp [ha])
    refine ⟨r, hr, len, rfl, hlen, ?_⟩
    rw [← detectionReply_eq hlen]
    exact exec_command (i := .nextDetection) (c := .nextDetection) rfl hreset hs
      (doNextDetection_head ha (hsound.table.heldRecord_eq hr))
  · exact exec_command (i := .nextDetection) (c := .nextDetection) rfl hreset hs (doNextDetection_empty ha)

/-- Settles O38. -/
theorem readItemReportsTheRecord : Obligations.ReadItemReportsTheRecord := by
  refine fun s₀ s hreset hs => ⟨fun k r hsound hk ht => ?_, fun hnone => ?_⟩
  · have hheld := hsound.table.heldRecord_eq (List.mem_of_getElem? hk)
    rw [← itemReply_eq, ← hsound.table.age_eq hk]
    exact exec_command (i := .readItem) (c := .readItem) rfl hreset hs (doReadItem_taken (ht ▸ hheld))
  · exact exec_command (i := .readItem) (c := .readItem) rfl hreset hs (doReadItem_unknown hnone)

end Sys2Proof.Machine
end

section
/-! The deadline of a record: the default PASS, and the default EJECT in the order of its tests (R58 to R60). -/

namespace Sys2Proof.Machine

section
variable {s : State} {r : ItemRecord} {u : Byte}

theorem exec_deadline (hreset : s.inReset = false) : exec (.deadline u) s = .next (takeDeadline u s) :=
  congrArg _ (event_taken hreset)

/-! ### What a deadline does (R58, R59) -/

theorem takeDeadline_passes (h : s.liveRecord u = some r) (hs : r.state = .pending) (hd : r.d = s.p)
    (hk : r.snapshot.defaultKind = .pass) : takeDeadline u s = retireAndCheck u .defaultPassed s := by
  simp [takeDeadline, h, hs, hd, hk]

theorem takeDeadline_ejects (h : s.liveRecord u = some r) (hs : r.state = .pending) (hd : r.d = s.p)
    (hk : r.snapshot.defaultKind = .eject) : takeDeadline u s = defaultEject r s := by
  simp [takeDeadline, h, hs, hd, hk]

theorem takeDeadline_notDue (h : s.liveRecord u = some r) (hn : r.state ≠ .pending ∨ r.d ≠ s.p) : takeDeadline u s = s := by
  have hdue : ¬ (r.state = .pending ∧ r.d = s.p) := not_and_or.2 hn
  simp [takeDeadline, h, hdue]

theorem takeDeadline_absent (h : s.liveRecord u = none) : takeDeadline u s = s := by simp [takeDeadline, h]

/-! ### The tests of a default EJECT (R60) -/

section
variable {v : Verdict} {o : Order} {a : State}

/-- The default EJECT with its verdict, its order and the state that has the verdict named. -/
theorem defaultEject_eq (hv : v = defaultVerdict r.snapshot) (ho : o = s.orderFor r v)
    (ha : a = s.modifyRecord r.tag fun x => { x with verdict := some v }) :
    defaultEject r s =
      if (s.station v.station).record.enable = false ∨ (s.station v.station).record.lane ≠ r.lane then
        retireAndCheck r.tag .unroutable a
      else if isAhead s.p o.onPos = false then retireAndCheck r.tag .missedWindow a
      else match a.arbitrate r.tag v o.onPos with
        | none => retireAndCheck r.tag .conflict a
        | some bumped => place r.tag v o bumped a := by
  subst ho hv ha
  rfl

theorem orderFor_eq {len : Half} (h : r.length = some len) (v : Verdict) :
    s.orderFor r v = computeOrder r.lead len (s.station v.station).record.offset (s.profile v.profile) := by
  rw [State.orderFor, h, Option.getD_some]

end

end

/-- Settles O39. -/
theorem deadlinePassesByDefault : Obligations.DeadlinePassesByDefault := by
  refine fun s t hreset => ⟨fun r hr hs hd hk => ?_, fun r hr hn => ?_, fun hnone => ?_⟩ <;> rw [exec_deadline hreset]
  · rw [takeDeadline_passes hr hs hd hk, retireAndCheck]
  · rw [takeDeadline_notDue hr hn]
  · rw [takeDeadline_absent hnone]

/-- Settles O40: the branches of `defaultEject` are the tests of R60 in their order. -/
theorem deadlineEjectsByDefault : Obligations.DeadlineEjectsByDefault := by
  intro s a t r len v o hreset hr hs hd hk hlen hv ho ha
  obtain ⟨-, rfl, -⟩ := liveRecord_spec hr
  rw [exec_deadline hreset, takeDeadline_ejects hr hs hd hk, defaultEject_eq hv (ho.trans (orderFor_eq hlen v).symm) ha]
  refine ⟨fun hst => ?_, fun hen hlane => ?_⟩
  · rw [if_pos hst, retireAndCheck]
  · have hst : ¬ ((s.station v.station).record.enable = false ∨ (s.station v.station).record.lane ≠ r.lane) := by
      simp [hen, hlane]
    rw [if_neg hst]
    refine ⟨fun hahead => ?_, fun hahead harb => ?_, fun bumped hahead harb => ?_⟩
    · rw [if_pos hahead, retireAndCheck]
    · rw [if_neg (by simp [hahead]), harb, retireAndCheck]
    · rw [if_neg (by simp [hahead]), harb]

end Sys2Proof.Machine
end

section
/-! SET_PROFILE and SET_FREE_THRESHOLD: their ranges, and that nothing else changes the threshold (R73, R103). -/

namespace Sys2Proof.Machine

section
variable {s t : State}

/-! ### SET_PROFILE (R103) -/

theorem signedField_eq {w : Half} (h : -2048 ≤ w.toInt) (h' : w.toInt ≤ 2047) : signedField w = some w := if_pos ⟨h, h'⟩

theorem signedField_none {w : Half} (h : w.toInt < -2048 ∨ 2047 < w.toInt) : signedField w = none := by
  unfold signedField
  rw [if_neg]
  omega

/-- Every parameter in its range: the profile of the four fields (R103). -/
theorem profileOf_eq {ps : Params} {n : ProfileNo} (h₀ : ps[0].toNat = n.val) (h₁ : ps[1].toNat ≤ 1)
    (h₂ : -2048 ≤ (halfOf ps[2] ps[3]).toInt) (h₂' : (halfOf ps[2] ps[3]).toInt ≤ 2047)
    (h₄ : 1 ≤ (halfOf ps[4] ps[5]).toNat)
    (h₆ : -2048 ≤ (halfOf ps[6] ps[7]).toInt) (h₆' : (halfOf ps[6] ps[7]).toInt ≤ 2047) :
    profileOf ps = some (n,
      { leadShift := halfOf ps[2] ps[3], widthKind := if ps[1] = 0 then .time else .span,
        timeWidth := halfOf ps[4] ps[5], spanExtra := halfOf ps[6] ps[7] }) := by
  have h₄' : (halfOf ps[4] ps[5]).toNat ≤ 65535 := by omega
  simp [profileOf, indexOf_eq h₀, selection_eq _ _ h₁, signedField_eq h₂ h₂', within_eq h₄ h₄', signedField_eq h₆ h₆']

/-- A parameter out of its range: none (R103). -/
theorem profileOf_none {ps : Params}
    (h : 8 ≤ ps[0].toNat ∨ 1 < ps[1].toNat ∨ (halfOf ps[2] ps[3]).toInt < -2048 ∨ 2047 < (halfOf ps[2] ps[3]).toInt ∨
      (halfOf ps[4] ps[5]).toNat < 1 ∨ (halfOf ps[6] ps[7]).toInt < -2048 ∨ 2047 < (halfOf ps[6] ps[7]).toInt) :
    profileOf ps = none := by
  obtain h | h | h | h | h | h | h := h
  · simp [profileOf, indexOf_none h]
  · simp [profileOf, selection_none _ _ h]
  · simp [profileOf, signedField_none (.inl h)]
  · simp [profileOf, signedField_none (.inr h)]
  · simp [profileOf, within_none (hi := 65535) (.inl h)]
  · simp [profileOf, signedField_none (.inl h)]
  · simp [profileOf, signedField_none (.inr h)]

theorem doSetProfile_taken {n : ProfileNo} {f : Profile} (h : profileOf s.params = some (n, f)) :
    doSetProfile s = (.ok, s.setProfile n f) := by
  simp [doSetProfile, h]

theorem doSetProfile_refused (h : profileOf s.params = none) : doSetProfile s = (.param, s) := by
  simp [doSetProfile, h, refuse]

/-! ### SET_FREE_THRESHOLD (R73) -/

theorem doSetFreeThreshold_taken (h : s.params[0].toNat ≤ 31) :
    doSetFreeThreshold s = (.ok, { s with freeThreshold := s.params[0] }) := by
  simp [doSetFreeThreshold, thresholdOf, within_eq (Nat.zero_le _) h]

theorem doSetFreeThreshold_refused (h : 32 ≤ s.params[0].toNat) : doSetFreeThreshold s = (.param, s) := by
  simp [doSetFreeThreshold, thresholdOf, within_none (lo := 0) (hi := 31) (.inr h), refuse]

/-! ### What keeps the free threshold -/

theorem event_freeThreshold {f : State → State} (h : (f s).freeThreshold = s.freeThreshold) :
    (event f s).freeThreshold = s.freeThreshold := by
  unfold event
  split
  · rfl
  · exact h

theorem access_freeThreshold {f : State → State} (h : ∀ a, (f a).freeThreshold = a.freeThreshold) :
    (access f s).freeThreshold = s.freeThreshold :=
  event_freeThreshold ((h _).trans (finishTick_freeThreshold s))

theorem doVerdict_freeThreshold (s : State) : (doVerdict s).2.freeThreshold = s.freeThreshold := by
  unfold doVerdict
  split
  · rfl
  · split
    next => rfl
    next =>
      unfold verdictPending
      simp only
      (repeat' split) <;> simp [refuse]
    all_goals rfl

/-- No command but SET_FREE_THRESHOLD changes the free threshold. -/
theorem commandBody_freeThreshold {c : HostCommand} (hc : c ≠ .setFreeThreshold) (s : State) :
    (commandBody c s).2.freeThreshold = s.freeThreshold := by
  cases c with
  | setFreeThreshold => exact absurd rfl hc
  | start => simp only [commandBody, doStart]; (repeat' split) <;> rfl
  | drain => simp only [commandBody, doDrain]; split <;> simp [refuse]
  | halt => simp only [commandBody, doHalt]; (repeat' split) <;> simp [refuse]
  | resume => simp only [commandBody, doResume]; (repeat' split) <;> rfl
  | clearLine => simp only [commandBody, doClearLine]; split <;> rfl
  | setTimebase => simp only [commandBody, doSetTimebase]; (repeat' split) <;> rfl
  | setPosition => simp only [commandBody, doSetPosition]; split <;> rfl
  | setLane => simp only [commandBody, doSetLane]; split <;> rfl
  | setStation => simp only [commandBody, doSetStation]; (repeat' split) <;> rfl
  | setProfile => simp only [commandBody, doSetProfile]; split <;> rfl
  | readLane => simp only [commandBody, doReadLane]; split <;> rfl
  | readStation => simp only [commandBody, doReadStation]; split <;> rfl
  | readProfile => simp only [commandBody, doReadProfile]; split <;> rfl
  | readItem => simp only [commandBody, doReadItem]; split <;> rfl
  | readTimebase => rfl
  | nextDetection => simp only [commandBody, doNextDetection]; (repeat' split) <;> rfl
  | nextOutcome => simp only [commandBody, doNextOutcome]; split <;> simp [refuse]
  | verdict => exact doVerdict_freeThreshold s
  | pass => simp only [commandBody, doPass]; (repeat' split) <;> simp [refuse]
  | abort => simp only [commandBody, doAbort]; (repeat' split) <;> simp [refuse]

theorem runCommand_freeThreshold {c : HostCommand} (hc : c ≠ .setFreeThreshold) (s : State) :
    (runCommand c s).freeThreshold = s.freeThreshold := by
  cases hr : s.inReset with
  | true => rw [runCommand_held hr]
  | false =>
    rw [runCommand_taken hr]
    exact (commandBody_freeThreshold hc _).trans (finishTick_freeThreshold s)

theorem writeCmd_freeThreshold {b : Byte} (hb : b ≠ 0x15) (s : State) : (writeCmd b s).freeThreshold = s.freeThreshold := by
  unfold writeCmd
  split
  next c hc =>
    refine runCommand_freeThreshold (fun e => hb ?_) s
    rw [ofCode_eq_some hc, e]
    rfl
  next => exact event_freeThreshold rfl

theorem deliver_freeThreshold {a : BitVec 6} {b : Byte} (h : a = 0x00 → b ≠ 0x15) (s : State) :
    (deliver a b s).freeThreshold = s.freeThreshold := by
  unfold deliver
  simp only
  split
  next ha => exact writeCmd_freeThreshold (h (BitVec.eq_of_toNat_eq ha)) s
  next =>
    split
    · rfl
    · split
      · exact access_freeThreshold fun _ => rfl
      · split <;> rfl

@[simp] theorem edgeStart_freeThreshold (waits : Bool) (s : State) : (edgeStart waits s).freeThreshold = s.freeThreshold := by
  unfold edgeStart
  split
  · rfl
  · exact finishTick_freeThreshold s

theorem takeEncoder_freeThreshold (d : EdgeDir) (s : State) : (takeEncoder d s).freeThreshold = s.freeThreshold := by
  unfold takeEncoder
  simp only
  split
  · exact advance_freeThreshold _
  · rfl

theorem takeRateExpiry_freeThreshold (s : State) : (takeRateExpiry s).freeThreshold = s.freeThreshold := by
  unfold takeRateExpiry
  split
  · exact takeDueAdvance_freeThreshold s
  · rfl

theorem countRate_freeThreshold (s : State) : (countRate s).freeThreshold = s.freeThreshold := by
  unfold countRate
  split
  · split <;> rfl
  · rfl

theorem sampleLanes_freeThreshold (sns : Vector Level 4) (s : State) : (sampleLanes sns s).freeThreshold = s.freeThreshold :=
  foldl_keeps State.freeThreshold _ (fun _ _ => rfl) allLanes s

theorem settleAll_freeThreshold (s : State) : (settleAll s).freeThreshold = s.freeThreshold := by
  have hlate : ∀ a, (forStations takeLateTick a).freeThreshold = a.freeThreshold :=
    foldl_keeps State.freeThreshold _ (fun a n => takeLateTick_freeThreshold n a) allStations
  simp [settleAll, hlate]

theorem tickNow_freeThreshold (pins : PinSamples) (late : BitVec 8) (s : State) :
    (tickNow pins late s).freeThreshold = s.freeThreshold := by
  unfold tickNow tickEngines forStations
  rw [foldl_keeps State.freeThreshold _ _ allStations, countRate_freeThreshold, sampleLanes_freeThreshold]
  · rfl
  · intro a n
    simp only
    split <;> simp

/-- A row that is neither SET_FREE_THRESHOLD nor a reset keeps the free threshold (R73). -/
theorem exec_freeThreshold {c : Instr} (he : exec c s = .next t) (hset : c ≠ .setFreeThreshold) (hcode : c ≠ .badCommand 0x15)
    (hwrite : ∀ y, c ≠ .registerWrite 0x00 0x15 y) (hr : ∀ n, c ≠ .reset n) (hl : c ≠ .resetRelease) :
    t.freeThreshold = s.freeThreshold := by
  cases c <;> obtain rfl := Host.Outcome.next.inj he
  case setFreeThreshold => exact absurd rfl hset
  case reset n => exact absurd rfl (hr n)
  case resetRelease => exact absurd rfl hl
  case badCommand b => exact writeCmd_freeThreshold (fun e => hcode (e ▸ rfl)) s
  case registerWrite a b y =>
    refine event_freeThreshold ?_
    split
    · exact deliver_freeThreshold (fun ha hb => hwrite y (by rw [ha, hb])) s
    · rfl
  case paramWrite => exact event_freeThreshold rfl
  case irqEnableWrite => exact event_freeThreshold rfl
  case irqFlagsWrite b => exact access_freeThreshold fun _ => rfl
  case pos0Read => exact access_freeThreshold fun _ => rfl
  case tick pins late => exact event_freeThreshold ((tickNow_freeThreshold pins late _).trans (settleAll_freeThreshold s))
  case encoderEdge d => exact event_freeThreshold ((takeEncoder_freeThreshold d _).trans (edgeStart_freeThreshold _ s))
  case rateCountdownExpiry => exact event_freeThreshold (takeRateExpiry_freeThreshold s)
  case xstopActive => exact event_freeThreshold (by simp [xstopChange])
  case xstopInactive => exact event_freeThreshold (by simp [xstopChange])
  case leadEdge l => exact event_freeThreshold (by simp [laneEdge])
  case trailingEdge l => exact event_freeThreshold (by simp [laneEdge])
  case jam l => exact event_freeThreshold (takeJam_freeThreshold l s)
  case deadline u => exact event_freeThreshold (takeDeadline_freeThreshold u s)
  case arrival n => exact event_freeThreshold (takeArrival_freeThreshold n s)
  case offPositionReached n => exact event_freeThreshold (takeOffPosition_freeThreshold n s)
  case timePulseEnd n => exact event_freeThreshold (by simp)
  case maxOnCut n => exact event_freeThreshold (by simp)
  case recoveryEnd n => exact event_freeThreshold (by simp)
  case guardMarkReached n => exact event_freeThreshold (takeGuardMark_freeThreshold n s)
  case drainCompletion => exact event_freeThreshold (drainCheck_freeThreshold s)
  case backlogPromotion => exact event_freeThreshold (promote_freeThreshold s)
  all_goals exact runCommand_freeThreshold (by simp) s

end

/-- Settles O47. -/
theorem profileAndThresholdAreSetInRange : Obligations.ProfileAndThresholdAreSetInRange := by
  refine ⟨fun s₀ s hreset hs => ⟨fun n h₀ h₁ h₂ h₂' h₄ h₆ h₆' => ?_, fun hp => ?_⟩,
    fun s₀ s hreset hs => ⟨fun hb => ?_, fun hb => ?_⟩, rfl, fun c s t he => exec_freeThreshold he⟩
  · exact exec_command (i := .setProfile) (c := .setProfile) rfl hreset hs
      (doSetProfile_taken (profileOf_eq h₀ h₁ h₂ h₂' h₄ h₆ h₆'))
  · exact exec_command (i := .setProfile) (c := .setProfile) rfl hreset hs (doSetProfile_refused (profileOf_none hp))
  · exact exec_command (i := .setFreeThreshold) (c := .setFreeThreshold) rfl hreset hs (doSetFreeThreshold_taken hb)
  · exact exec_command (i := .setFreeThreshold) (c := .setFreeThreshold) rfl hreset hs (doSetFreeThreshold_refused hb)

end Sys2Proof.Machine
end

section
/-! VERDICT, PASS and ABORT: the key checks, the tests of a PENDING record in their order, and what each item state answers
(R75 to R86). -/

namespace Sys2Proof.Machine

section
variable {s : State} {r : ItemRecord} {v : Verdict} {o : Order} {code : ResultCode}

/-! ### The key checks (R75) -/

theorem keyCheck_unknown (h : ∀ x ∈ s.items, x.tag = s.params[0] → x.state = .retired) : s.keyCheck = .inl .unknown := by
  have hnone : s.liveRecord s.params[0] = none :=
    List.find?_eq_none.2 fun x hx => by simpa [ItemRecord.isLive] using h x hx
  simp [State.keyCheck, keyOf, hnone]

theorem keyCheck_stale (h : s.liveRecord s.params[0] = some r) (hk : r.lead.setWidth 16 ≠ halfOf s.params[1] s.params[2]) :
    s.keyCheck = .inl .stale := by
  simp [State.keyCheck, keyOf, h, ItemRecord.stamp, hk]

theorem keyCheck_good (h : s.liveRecord s.params[0] = some r) (hk : r.lead.setWidth 16 = halfOf s.params[1] s.params[2]) :
    s.keyCheck = .inr r := by
  simp [State.keyCheck, keyOf, h, ItemRecord.stamp, hk]

/-! ### The parameters of VERDICT (R78) -/

theorem verdictOf_eq {ps : Params} (hv : v.source = .commanded) (h₃ : ps[3].toNat = v.station.val)
    (h₄ : ps[4].toNat = v.profile.val) (h₅ : ps[5].toNat = v.priority.val) : verdictOf ps = some v := by
  simp [verdictOf, indexOf_eq h₃, indexOf_eq h₄, indexOf_eq h₅, ← hv]

theorem verdictOf_none {ps : Params} (h : 8 ≤ ps[3].toNat ∨ 8 ≤ ps[4].toNat ∨ 8 ≤ ps[5].toNat) : verdictOf ps = none := by
  obtain h | h | h := h <;> simp [verdictOf, indexOf_none h]

/-! ### VERDICT for a PENDING record (R78 to R81) -/

theorem verdictPending_param (h : verdictOf s.params = none) : verdictPending r s = (.param, s) := by
  simp [verdictPending, h, refuse]

theorem verdictPending_stationOff (hv : verdictOf s.params = some v) (hen : (s.station v.station).record.enable = false) :
    verdictPending r s = (.stationOff, s) := by
  simp [verdictPending, hv, hen, refuse]

theorem verdictPending_wrongLane (hv : verdictOf s.params = some v) (hen : (s.station v.station).record.enable = true)
    (hlane : (s.station v.station).record.lane ≠ r.lane) : verdictPending r s = (.wrongLane, s) := by
  simp [verdictPending, hv, hen, hlane, refuse]

theorem verdictPending_late (hv : verdictOf s.params = some v) (hen : (s.station v.station).record.enable = true)
    (hlane : (s.station v.station).record.lane = r.lane) (ho : s.orderFor r v = o) (hahead : isAhead s.p o.onPos = false) :
    verdictPending r s = (.late, s) := by
  simp [verdictPending, hv, hen, hlane, ho, hahead, refuse]

theorem verdictPending_conflict (hv : verdictOf s.params = some v) (hen : (s.station v.station).record.enable = true)
    (hlane : (s.station v.station).record.lane = r.lane) (ho : s.orderFor r v = o) (hahead : isAhead s.p o.onPos = true)
    (harb : s.arbitrate r.tag v o.onPos = none) : verdictPending r s = (.conflict, s) := by
  simp [verdictPending, hv, hen, hlane, ho, hahead, harb, refuse]

theorem verdictPending_won {bumped : List Byte} (hv : verdictOf s.params = some v)
    (hen : (s.station v.station).record.enable = true) (hlane : (s.station v.station).record.lane = r.lane)
    (ho : s.orderFor r v = o) (hahead : isAhead s.p o.onPos = true) (harb : s.arbitrate r.tag v o.onPos = some bumped) :
    verdictPending r s = (.ok, place r.tag v o bumped s) := by
  simp [verdictPending, hv, hen, hlane, ho, hahead, harb]

/-! ### What each item state answers (R77, R82 to R86) -/

theorem decidedAnswer_eq (h : r.verdict = some v) :
    decidedAnswer r = if v.source = .commanded then .decided else .late := by
  unfold decidedAnswer
  rw [h]
  obtain ⟨source, station, profile, priority⟩ := v
  cases source <;> rfl

theorem doVerdict_measuring (hk : s.keyCheck = .inr r) (hs : r.state = .measuring) : doVerdict s = (.notReady, s) := by
  simp [doVerdict, hk, hs, refuse]

theorem doVerdict_pending (hk : s.keyCheck = .inr r) (hs : r.state = .pending) : doVerdict s = verdictPending r s := by
  simp [doVerdict, hk, hs]

theorem doVerdict_decided (hk : s.keyCheck = .inr r) (hs : r.state = .committed ∨ r.state = .firing) :
    doVerdict s = (decidedAnswer r, s) := by
  obtain hs | hs := hs <;> simp [doVerdict, hk, hs, refuse]

theorem doPass_measuring (hk : s.keyCheck = .inr r) (hs : r.state = .measuring) : doPass s = (.notReady, s) := by
  simp [doPass, hk, hs, refuse]

theorem doPass_pending (hk : s.keyCheck = .inr r) (hs : r.state = .pending) :
    doPass s = (.ok, retireAndCheck r.tag .passed s) := by
  simp [doPass, hk, hs]

theorem doPass_decided (hk : s.keyCheck = .inr r) (hs : r.state = .committed ∨ r.state = .firing) :
    doPass s = (decidedAnswer r, s) := by
  obtain hs | hs := hs <;> simp [doPass, hk, hs, refuse]

theorem doAbort_measuring (hk : s.keyCheck = .inr r) (hs : r.state = .measuring) : doAbort s = (.notReady, s) := by
  simp [doAbort, hk, hs, refuse]

theorem doAbort_retires (hk : s.keyCheck = .inr r) (hs : r.state = .pending ∨ r.state = .committed) :
    doAbort s = (.ok, retireAndCheck r.tag .aborted s) := by
  obtain hs | hs := hs <;> simp [doAbort, hk, hs]

theorem doAbort_firing (hk : s.keyCheck = .inr r) (hs : r.state = .firing) : doAbort s = (.inProgress, s) := by
  simp [doAbort, hk, hs, refuse]

/-! ### A refused verdict command changes nothing (R76) -/

/-- A reply to a command taken at `s` answers OK, or its state is `s` (R76). -/
def Reply.OkOrKept (x : Reply) (s : State) : Prop := x.1 = .ok ∨ x.2 = s

theorem refuse_okOrKept (code : ResultCode) (s : State) : Reply.OkOrKept (refuse code s) s := .inr rfl

theorem verdictPending_okOrKept (r : ItemRecord) (s : State) : (verdictPending r s).OkOrKept s := by
  unfold verdictPending
  split
  · exact refuse_okOrKept _ s
  · simp only
    split
    · exact refuse_okOrKept _ s
    · split
      · exact refuse_okOrKept _ s
      · split
        · exact refuse_okOrKept _ s
        · split
          · exact refuse_okOrKept _ s
          · exact .inl rfl

theorem doVerdict_okOrKept (s : State) : (doVerdict s).OkOrKept s := by
  unfold doVerdict
  split
  · exact refuse_okOrKept _ s
  · next r _ =>
    cases r.state with
    | pending => exact verdictPending_okOrKept r s
    | measuring | committed | firing | retired => exact refuse_okOrKept _ s

theorem doPass_okOrKept (s : State) : (doPass s).OkOrKept s := by
  unfold doPass
  split
  · exact refuse_okOrKept _ s
  · next r _ =>
    cases r.state with
    | pending => exact .inl rfl
    | measuring | committed | firing | retired => exact refuse_okOrKept _ s

theorem doAbort_okOrKept (s : State) : (doAbort s).OkOrKept s := by
  unfold doAbort
  split
  · exact refuse_okOrKept _ s
  · next r _ =>
    cases r.state with
    | pending | committed => exact .inl rfl
    | measuring | firing | retired => exact refuse_okOrKept _ s

/-! ### The three commands together -/

/-- The rows of the verdict commands, each with its command (Table 9.2). -/
def IsVerdictRow (i : Instr) (c : HostCommand) : Prop :=
  (i = .verdict ∧ c = .verdict) ∨ (i = .pass ∧ c = .pass) ∨ (i = .abort ∧ c = .abort)

theorem exec_verdictRow {i : Instr} {c : HostCommand} (h : IsVerdictRow i c) (s : State) :
    exec i s = .next (runCommand c s) := by
  obtain ⟨rfl, rfl⟩ | ⟨rfl, rfl⟩ | ⟨rfl, rfl⟩ := h <;> rfl

/-- A failed key check comes before everything else (R75). -/
theorem commandBody_keyRefused {i : Instr} {c : HostCommand} (h : IsVerdictRow i c) (hk : s.keyCheck = .inl code) :
    commandBody c s = (code, s) := by
  obtain ⟨-, rfl⟩ | ⟨-, rfl⟩ | ⟨-, rfl⟩ := h
  · simp [commandBody, doVerdict, hk, refuse]
  · simp [commandBody, doPass, hk, refuse]
  · simp [commandBody, doAbort, hk, refuse]

theorem commandBody_okOrKept {i : Instr} {c : HostCommand} (h : IsVerdictRow i c) (s : State) :
    (commandBody c s).OkOrKept s := by
  obtain ⟨-, rfl⟩ | ⟨-, rfl⟩ | ⟨-, rfl⟩ := h
  · exact doVerdict_okOrKept s
  · exact doPass_okOrKept s
  · exact doAbort_okOrKept s

theorem exec_verdictRow_refused {i : Instr} {c : HostCommand} {s₀ t : State} (h : IsVerdictRow i c)
    (hreset : s₀.inReset = false) (hs : s = finishTick s₀) (he : exec i s₀ = .next t) (hr : t.result ≠ .ok) :
    t = { s with cmd := t.cmd, result := t.result } := by
  obtain ⟨⟨code, a⟩, hb⟩ : ∃ x, commandBody c s = x := ⟨_, rfl⟩
  rw [exec_command (exec_verdictRow h s₀) hreset hs hb] at he
  obtain rfl := Host.Outcome.next.inj he
  obtain hok | rfl : code = .ok ∨ a = s := by simpa [Reply.OkOrKept, hb] using commandBody_okOrKept h s
  · exact absurd hok hr
  · rfl

end

/-- Settles O41: a failed key check is the whole reply, and every reply that is not OK keeps the state. -/
theorem keyChecksComeFirstAndRefusalsChangeNothing : Obligations.KeyChecksComeFirstAndRefusalsChangeNothing := by
  refine ⟨fun i c s₀ s hreset hs hi => ⟨fun hnone => ?_, fun r hr hstamp => ?_⟩, fun i s₀ s t hreset hs hi => ?_⟩
  · exact exec_command (exec_verdictRow hi s₀) hreset hs (commandBody_keyRefused hi (keyCheck_unknown hnone))
  · exact exec_command (exec_verdictRow hi s₀) hreset hs (commandBody_keyRefused hi (keyCheck_stale hr hstamp))
  · obtain rfl | rfl | rfl := hi
    · exact exec_verdictRow_refused (.inl ⟨rfl, rfl⟩) hreset hs
    · exact exec_verdictRow_refused (.inr (.inl ⟨rfl, rfl⟩)) hreset hs
    · exact exec_verdictRow_refused (.inr (.inr ⟨rfl, rfl⟩)) hreset hs

/-- Settles O42: the good key leads to the answer of the item state, and a PENDING record through the tests of R78 to R80. -/
theorem verdictIsTestedInOrder : Obligations.VerdictIsTestedInOrder := by
  intro s₀ s r refused hreset hs hr hstamp hrefused
  have hk := keyCheck_good hr hstamp
  have answers {code : ResultCode} (h : doVerdict s = (code, s)) : exec .verdict s₀ = .next (refused code) :=
    hrefused code ▸ exec_command (c := .verdict) rfl hreset hs h
  have pendingAnswers {code : ResultCode} (hp : r.state = .pending) (h : verdictPending r s = (code, s)) :
      exec .verdict s₀ = .next (refused code) := answers ((doVerdict_pending hk hp).trans h)
  refine ⟨fun hm => answers (doVerdict_measuring hk hm), fun w hd hw => ?_,
    fun hp hrange => pendingAnswers hp (verdictPending_param (verdictOf_none hrange)), ?_⟩
  · rw [← decidedAnswer_eq hw]
    exact answers (doVerdict_decided hk hd)
  · intro v len o hp hsource h₃ h₄ h₅
    have hv := verdictOf_eq hsource h₃ h₄ h₅
    refine ⟨fun hoff => pendingAnswers hp (verdictPending_stationOff hv hoff),
      fun hen hlane => pendingAnswers hp (verdictPending_wrongLane hv hen hlane), fun hen hlane hlen ho => ?_⟩
    have ho' : s.orderFor r v = o := (orderFor_eq hlen v).trans ho.symm
    exact ⟨fun hahead => pendingAnswers hp (verdictPending_late hv hen hlane ho' hahead),
      fun hahead harb => pendingAnswers hp (verdictPending_conflict hv hen hlane ho' hahead harb)⟩

/-- Settles O43. -/
theorem verdictCommitsTheWinner : Obligations.VerdictCommitsTheWinner := by
  intro s₀ s r v len o bumped hreset hs hr hstamp hp hsource h₃ h₄ h₅ hen hlane hlen ho hahead harb
  have hv := verdictOf_eq hsource h₃ h₄ h₅
  have ho' : s.orderFor r v = o := (orderFor_eq hlen v).trans ho.symm
  exact exec_command (c := .verdict) rfl hreset hs <|
    (doVerdict_pending (keyCheck_good hr hstamp) hp).trans (verdictPending_won hv hen hlane ho' hahead harb)

/-- Settles O45: each clause is what PASS or ABORT answers for one item state. -/
theorem passAndAbortRetireOrRefuse : Obligations.PassAndAbortRetireOrRefuse := by
  intro s₀ s r hreset hs hr hstamp
  have hk := keyCheck_good hr hstamp
  have passes {code : ResultCode} {a : State} (h : doPass s = (code, a)) :
      exec .pass s₀ = .next { a with cmd := 0x41, result := code } := exec_command (c := .pass) rfl hreset hs h
  have aborts {code : ResultCode} {a : State} (h : doAbort s = (code, a)) :
      exec .abort s₀ = .next { a with cmd := 0x42, result := code } := exec_command (c := .abort) rfl hreset hs h
  refine ⟨fun hm => ⟨passes (doPass_measuring hk hm), aborts (doAbort_measuring hk hm)⟩,
    fun hp => ⟨passes (doPass_pending hk hp), aborts (doAbort_retires hk (.inl hp))⟩, fun w hd hw => ?_,
    fun hc => aborts (doAbort_retires hk (.inr hc)), fun hf => aborts (doAbort_firing hk hf)⟩
  rw [← decidedAnswer_eq hw]
  exact passes (doPass_decided hk hd)

end Sys2Proof.Machine
end

section
/-! Orders and stations one by one (chapter 6): the position and the width of an order, where a placement puts it, the guard mark,
SET_STATION, and the pins of the stations (R120, R134). -/

namespace Sys2Proof.Machine

section
variable {s u : State} {n : StationNo}

/-! ### Computing an order (R105, R106) -/

/-- The on position as a sum of integers: OFFSET counts from 0, LEAD_SHIFT has a sign (R105). -/
theorem onPosition_toNat (lead : Pos) (offset leadShift : Half) :
    ((onPosition lead offset leadShift).toNat : Int) =
      ((lead.toNat : Int) + offset.toNat + leadShift.toInt) % 16777216 := by
  have hshift : ((leadShift.signExtend 24).toNat : Int) = leadShift.toInt % 16777216 := by
    rw [BitVec.signExtend, BitVec.toNat_ofInt]
    omega
  have hoffset : offset.toNat % 16777216 = offset.toNat := by omega
  simp only [onPosition, BitVec.toNat_add, BitVec.toNat_setWidth, Nat.reducePow, hoffset]
  omega

theorem spanOf_of_pos {len extra : Half} (h : 1 ≤ (len.toNat : Int) + extra.toInt) :
    (spanOf len extra : Int) = len.toNat + extra.toInt := by
  unfold spanOf
  omega

theorem spanOf_of_lt_one {len extra : Half} (h : (len.toNat : Int) + extra.toInt < 1) : spanOf len extra = 1 := by
  unfold spanOf
  omega

theorem computeOrder_time (lead : Pos) (len offset : Half) {f : Profile} (h : f.widthKind = .time) :
    (computeOrder lead len offset f).width = .time f.timeWidth := by
  simp [computeOrder, h]

theorem computeOrder_span (lead : Pos) (len offset : Half) {f : Profile} (h : f.widthKind = .span) :
    (computeOrder lead len offset f).width =
      .span ((computeOrder lead len offset f).onPos + BitVec.ofNat 24 (spanOf len f.spanExtra)) := by
  simp [computeOrder, h]

/-! ### Where a placement puts an order (R108, R114 step 2) -/

theorem nearer_iff {on : Pos} {x : Byte} {q : Pos} (h : s.onPosOf x = some q) :
    s.nearer on x = true ↔ aheadDist s.p q < aheadDist s.p on := by
  simp [State.nearer, h]

theorem not_nearer {on : Pos} {x : Byte} (h : s.nearer on x = false) :
    ∃ q, s.onPosOf x = some q ∧ aheadDist s.p on ≤ aheadDist s.p q := by
  unfold State.nearer at h
  split at h
  next q hq => exact ⟨q, hq, by simpa using h⟩
  next => simp at h

/-- The commit as one update of the state. -/
theorem commit_eq (t : Byte) (v : Verdict) (o : Order) (s : State) :
    commit t v o s =
      { s with
        announce := s.announce.filter (· != t),
        stations := s.stations.set v.station.val
          { s.station v.station with
            list := (s.station v.station).list.takeWhile (s.nearer o.onPos) ++
              t :: (s.station v.station).list.dropWhile (s.nearer o.onPos) },
        items := s.items.map fun x =>
          if x.tag = t then { x with verdict := some v, order := some o, state := .committed } else x } := rfl

/-! ### The guard mark (R111) -/

theorem takeGuardMark_reached (h : (s.station n).guardMark = some s.p) :
    takeGuardMark n s = s.setStation n { s.station n with guardMark := none } := if_pos h

theorem takeGuardMark_kept (h : (s.station n).guardMark ≠ some s.p) : takeGuardMark n s = s := if_neg h

theorem exec_guardMarkReached (hreset : s.inReset = false) : exec (.guardMarkReached n) s = .next (takeGuardMark n s) :=
  congrArg _ (event_taken hreset)

/-! ### SET_STATION (R98, R99) -/

/-- Every parameter in its range: the station number and the record of the seven fields (R98). -/
theorem stationOf_eq {ps : Params} {l : LaneNo} (h₀ : ps[0].toNat = n.val) (h₁ : ps[1].toNat ≤ 3) (h₂ : ps[2].toNat = l.val)
    (h₃ : 1 ≤ (halfOf ps[3] ps[4]).toNat) (h₅ : 1 ≤ (halfOf ps[5] ps[6]).toNat) (h₉ : 1 ≤ (halfOf ps[9] ps[10]).toNat) :
    stationOf ps = some (n,
      { enable := ps[1].getLsbD 0, polarity := if ps[1].getLsbD 1 then .activeLow else .activeHigh, lane := l,
        offset := halfOf ps[3] ps[4], guard := halfOf ps[5] ps[6], recovery := halfOf ps[7] ps[8],
        maxOn := halfOf ps[9] ps[10] }) := by
  have h₃' : (halfOf ps[3] ps[4]).toNat ≤ 65535 := by omega
  have h₅' : (halfOf ps[5] ps[6]).toNat ≤ 65535 := by omega
  have h₉' : (halfOf ps[9] ps[10]).toNat ≤ 65535 := by omega
  simp [stationOf, polarityOf, indexOf_eq h₀, within_eq (Nat.zero_le _) h₁, indexOf_eq h₂, within_eq h₃ h₃', within_eq h₅ h₅',
    within_eq h₉ h₉']

/-- The record that a SET_STATION writes has a GUARD of 1 or more, and its station number is that of the parameters (R97, R98). -/
theorem stationOf_some {ps : Params} {r : StationRecord} (h : stationOf ps = some (n, r)) :
    ps[0].toNat < 8 ∧ ps[1].toNat ≤ 3 ∧ ps[2].toNat < 4 ∧ 1 ≤ (halfOf ps[3] ps[4]).toNat ∧ 1 ≤ (halfOf ps[5] ps[6]).toNat ∧
      1 ≤ (halfOf ps[9] ps[10]).toNat ∧ r.guard = halfOf ps[5] ps[6] := by
  simp only [stationOf, Option.bind_eq_bind, Option.bind_eq_some_iff, Option.pure_def, Option.some.injEq, Prod.mk.injEq] at h
  obtain ⟨m, h₀, c, h₁, l, h₂, o, h₃, g, h₅, w, h₉, -, rfl⟩ := h
  obtain ⟨rfl, -, hc⟩ := within_eq_some h₁
  obtain ⟨rfl, ho, -⟩ := within_eq_some h₃
  obtain ⟨rfl, hg, -⟩ := within_eq_some h₅
  obtain ⟨rfl, hw, -⟩ := within_eq_some h₉
  exact ⟨indexOf_eq_some h₀, hc, indexOf_eq_some h₂, ho, hg, hw, rfl⟩

/-- A parameter out of its range: none (R98). -/
theorem stationOf_none {ps : Params}
    (h : 8 ≤ ps[0].toNat ∨ 3 < ps[1].toNat ∨ 4 ≤ ps[2].toNat ∨ (halfOf ps[3] ps[4]).toNat < 1 ∨
      (halfOf ps[5] ps[6]).toNat < 1 ∨ (halfOf ps[9] ps[10]).toNat < 1) : stationOf ps = none := by
  refine Option.eq_none_iff_forall_ne_some.2 fun ⟨n, r⟩ ha => ?_
  obtain ⟨h₀, h₁, h₂, h₃, h₅, h₉, -⟩ := stationOf_some ha
  omega

/-- A station is busy while its list holds an order or its engine is ON or in RECOVERY (R98). -/
theorem Station.busy_iff {x : Station} :
    x.busy = true ↔ x.list ≠ [] ∨ (∃ q, x.engine = .on q) ∨ ∃ c, x.engine = .recovery c := by
  unfold Station.busy
  cases x.engine <;> simp

/-- A station with an empty list and an engine at rest is not busy. -/
theorem Station.busy_eq_false {x : Station} (hl : x.list = []) (he : x.engine = .disabled ∨ x.engine = .offReady) :
    x.busy = false := by
  obtain he | he := he <;> simp [Station.busy, hl, he]

theorem doSetStation_param (h : stationOf s.params = none) : doSetStation s = (.param, s) := by
  simp [doSetStation, h, refuse]

section
variable {r : StationRecord}

theorem doSetStation_busy (h : stationOf s.params = some (n, r)) (hb : (s.station n).busy = true) :
    doSetStation s = (.busy, s) := by
  simp [doSetStation, h, hb, refuse]

theorem doSetStation_taken (h : stationOf s.params = some (n, r)) (hb : (s.station n).busy = false) :
    doSetStation s = (.ok, s.setStation n
      { s.station n with record := r, engine := if r.enable then .offReady else .disabled }) := by
  simp [doSetStation, h, hb, Engine.withEnable_eq (Station.not_busy hb).2]

end

/-! ### The pins (R120, R134) -/

theorem outputPin_eq (h : s.inReset = false) (n : StationNo) : s.outputPin n = (s.station n).pinLevel := by
  simp [State.outputPin, h]

theorem Station.pinLevel_on {x : Station} {q : Pulse} (h : x.engine = .on q) : x.pinLevel = activeLevel x.record.polarity := by
  simp [Station.pinLevel, h, Engine.isOn]

theorem Station.pinLevel_off {x : Station} (h : ∀ q, x.engine ≠ .on q) : x.pinLevel = inactiveLevel x.record.polarity := by
  have hoff : x.engine.isOn = false := Bool.eq_false_iff.2 fun e => by
    obtain ⟨q, hq⟩ := Engine.isOn_iff.1 e
    exact h q hq
  simp [Station.pinLevel, hoff]

/-- OUTPUT_LEVELS packs the eight pins, bit by bit (R134). -/
theorem outputLevels_eq (s : State) : s.outputLevels = packed (Nat.ofBits fun n : StationNo => decide (s.outputPin n = .high)) := by
  have hbit : ∀ n : StationNo, (if s.outputPin n = .high then 2 ^ n.val else 0) =
      2 ^ n.val * (decide (s.outputPin n = .high)).toNat := fun n => by
    by_cases h : s.outputPin n = .high <;> simp [h]
  unfold State.outputLevels allStations
  simp only [List.foldl_cons, List.foldl_nil, hbit, Nat.ofBits_succ, Nat.ofBits_zero, Function.comp_apply, Fin.reduceSucc,
    Fin.coe_ofNat_eq_mod, Nat.reduceMod, Nat.reducePow]
  congr 1
  omega

theorem getLsbD_outputLevels (s : State) (n : StationNo) : s.outputLevels.getLsbD n.val = decide (s.outputPin n = .high) := by
  rw [outputLevels_eq, packed, BitVec.getLsbD_ofNat, Nat.testBit_ofBits_lt _ _ n.isLt]
  simp

end

/-- Settles O48. -/
theorem ordersAreComputedFromTheRecords : Obligations.OrdersAreComputedFromTheRecords := by
  intro lead len offset f
  refine ⟨onPosition_toNat lead offset f.leadShift, fun h => computeOrder_time lead len offset h, fun h => ?_⟩
  exact ⟨_, spanOf len f.spanExtra, computeOrder_span lead len offset h, by simp, spanOf_of_pos, spanOf_of_lt_one⟩

/-- Settles O44: the list is cut at the first order that is not nearer. -/
theorem placementBumpsThenCommits : Obligations.PlacementBumpsThenCommits := by
  intro s u t v o bumped hu
  obtain rfl : u = bumpAll bumped s := hu
  refine ⟨_, _, (List.takeWhile_append_dropWhile (p := State.nearer _ o.onPos)).symm, fun x hx q hq => ?_, fun x hx => ?_,
    commit_eq t v o (bumpAll bumped s)⟩
  · exact (nearer_iff hq).1 (List.mem_takeWhile_imp hx)
  · have hnot := List.head?_dropWhile_not (State.nearer (bumpAll bumped s) o.onPos) ((bumpAll bumped s).station v.station).list
    rw [hx] at hnot
    exact not_nearer hnot

/-- Settles O50. -/
theorem guardMarkReachedBecomesInvalid : Obligations.GuardMarkReachedBecomesInvalid := by
  refine fun s n hreset => ⟨fun h => ?_, fun h => ?_⟩ <;> rw [exec_guardMarkReached hreset]
  · rw [takeGuardMark_reached h, State.setStation]
  · rw [takeGuardMark_kept h]

/-- Settles O46. -/
theorem setStationWritesAFreeStation : Obligations.SetStationWritesAFreeStation := by
  refine ⟨fun s₀ s hreset hs => ⟨?_, fun h => ?_⟩, fun s n hreset => ⟨?_, fun h => ?_, ?_, rfl⟩⟩
  · rintro n l x rfl h₀ h₁ h₂ h₃ h₅ h₉
    have hr := stationOf_eq h₀ h₁ h₂ h₃ h₅ h₉
    refine ⟨fun hbusy => ?_, fun hlist heng => ?_⟩
    · exact exec_command (c := .setStation) rfl hreset hs (doSetStation_busy hr (Station.busy_iff.2 hbusy))
    · exact exec_command (c := .setStation) rfl hreset hs (doSetStation_taken hr (Station.busy_eq_false hlist heng))
  · exact exec_command (c := .setStation) rfl hreset hs (doSetStation_param (stationOf_none h))
  · rintro ⟨q, hq⟩
    rw [outputPin_eq hreset, Station.pinLevel_on hq]
  · rw [outputPin_eq hreset, Station.pinLevel_off h]
  · rw [getLsbD_outputLevels, decide_eq_true_eq]

end Sys2Proof.Machine
end

section
/-! The station lists by ahead distance, and the arbitration (R108, R112, R113): what conflicts, who is stronger, and how many orders
can be bumped. -/

namespace Sys2Proof.Machine

/-! ### Ahead distances of listed orders (R108) -/

/-- The ahead distance of the order that the record of `w` holds, 0 without one. -/
def State.listedDist (s : State) (w : Byte) : Nat := ((s.onPosOf w).map (aheadDist s.p)).getD 0

theorem State.listedDistances_eq (s : State) (n : StationNo) :
    s.listedDistances n = (s.station n).list.map s.listedDist := rfl

/-- Of numbers at least `g` apart at most two are less than `g` from a given one. -/
theorem spacedBy_length_le_two {g d : Nat} {ds : List Nat} (h : spacedBy g ds) (hd : ∀ e ∈ ds, d < e + g ∧ e < d + g) :
    ds.length ≤ 2 := by
  match ds with
  | [] | [_] | [_, _] => simp
  | a :: b :: c :: _ =>
    obtain ⟨hab, hbc⟩ : a + g ≤ b ∧ b + g ≤ c := by simp_all [spacedBy]
    have ha := hd a (by simp)
    have hc := hd c (by simp)
    omega

section
variable {s t : State} {n : StationNo} {r x : ItemRecord} {on : Pos} {v w : Verdict} {o : Order} {u : Byte}

theorem State.tableLaw.onPosOf_eq (h : s.tableLaw) (hr : r ∈ s.items) (ho : r.order = some o) :
    s.onPosOf r.tag = some o.onPos := by
  simp [State.onPosOf, h.heldRecord_eq hr, ho]

theorem State.tableLaw.listedDist_eq (h : s.tableLaw) (hr : r ∈ s.items) (ho : r.order = some o) :
    s.listedDist r.tag = aheadDist s.p o.onPos := by
  simp [State.listedDist, h.onPosOf_eq hr ho]

/-! ### Who conflicts and who is stronger (R112, R113) -/

theorem distApart_lt_iff {a b g : Nat} : distApart a b < g ↔ a < b + g ∧ b < a + g := by
  unfold distApart
  omega

/-- N conflicts with a listed order less than GUARD from it (R112 step 2). -/
theorem conflictsAt_iff :
    s.conflictsAt n on x = true ↔ x.state = .committed ∧ x.tag ∈ (s.station n).list ∧ ∃ o, x.order = some o ∧
      aheadDist s.p on < aheadDist s.p o.onPos + (s.station n).record.guard.toNat ∧
      aheadDist s.p o.onPos < aheadDist s.p on + (s.station n).record.guard.toNat := by
  cases ho : x.order with
  | none => simp [State.conflictsAt, ho]
  | some o => simp [State.conflictsAt, ho, distApart_lt_iff, and_assoc]

/-- N conflicts with the engine unless it is ahead of a valid guard mark (R112 step 1). -/
theorem engineConflict_iff :
    s.engineConflict n on = true ↔ ∃ m, (s.station n).guardMark = some m ∧ aheadDist s.p on ≤ aheadDist s.p m := by
  cases hm : (s.station n).guardMark <;> simp [State.engineConflict, hm]

/-- The strength of R113: the higher priority, then the greater age. -/
theorem stronger_iff (hw : x.verdict = some w) :
    s.stronger u v.priority x = true ↔ v.priority < w.priority ∨ (v.priority = w.priority ∧ s.age u < s.age x.tag) := by
  simp [State.stronger, hw]

theorem State.presenceLaw.verdict_of_committed (h : s.presenceLaw) (hx : x ∈ s.items) (hs : x.state = .committed) :
    ∃ w, x.verdict = some w := by
  have hp := h x hx
  simp only [ItemRecord.presence, hs] at hp
  exact Option.ne_none_iff_exists'.1 hp.2.1

/-- N loses to a listed order it conflicts with and is not stronger than. -/
theorem State.presenceLaw.beaten_iff (h : s.presenceLaw) :
    (s.items.filter (s.conflictsAt n on)).all (s.stronger u v.priority) = false ↔
      ∃ x w, (x ∈ s.items ∧ s.conflictsAt n on x = true) ∧ x.verdict = some w ∧
        ¬ (v.priority < w.priority ∨ (v.priority = w.priority ∧ s.age u < s.age x.tag)) := by
  rw [List.all_eq_false]
  constructor
  · rintro ⟨x, hx, hst⟩
    obtain ⟨hx, hc⟩ := List.mem_filter.1 hx
    obtain ⟨w, hw⟩ := h.verdict_of_committed hx (conflictsAt_iff.1 hc).1
    exact ⟨x, w, ⟨hx, hc⟩, hw, mt (stronger_iff hw).2 hst⟩
  · rintro ⟨x, w, ⟨hx, hc⟩, hw, hst⟩
    exact ⟨x, List.mem_filter.2 ⟨hx, hc⟩, mt (stronger_iff hw).1 hst⟩

/-! ### The orders that are bumped -/

/-- The age of a record is its place in the table (R51). -/
theorem State.tableLaw.age_getElem (h : s.tableLaw) {i : Nat} (hi : i < s.items.length) : s.age s.items[i].tag = i := by
  refine (List.findIdx_eq hi).2 ⟨by simp, fun j hj => beq_false_of_ne fun e => hj.ne ?_⟩
  exact (h.2.getElem_inj_iff (hi := by simpa using hj.trans hi) (hj := by simpa using hi)).1 (by simpa using e)

/-- Records of the table, in its order, are in age order (R51, R114 step 1). -/
theorem State.tableLaw.pairwise_age (h : s.tableLaw) (p : ItemRecord → Bool) :
    ((s.items.filter p).map ItemRecord.tag).Pairwise (fun y z => s.age y < s.age z) := by
  refine List.pairwise_map.2 (List.Pairwise.sublist List.filter_sublist (List.pairwise_iff_getElem.2 fun i j hi hj hij => ?_))
  rwa [h.age_getElem hi, h.age_getElem hj]

/-- The order of `w` is less than GUARD of station `n` from the position `on`. -/
def State.closeTo (s : State) (n : StationNo) (on : Pos) (w : Byte) : Bool :=
  decide (aheadDist s.p on < s.listedDist w + (s.station n).record.guard.toNat) &&
    decide (s.listedDist w < aheadDist s.p on + (s.station n).record.guard.toNat)

/-- A record in the table conflicts with N exactly when it is COMMITTED, in the list, holds an order and is close to N. -/
theorem State.tableLaw.conflictsAt_iff_closeTo (h : s.tableLaw) (hx : x ∈ s.items) :
    s.conflictsAt n on x = true ↔
      x.state = .committed ∧ x.tag ∈ (s.station n).list ∧ x.order ≠ none ∧ s.closeTo n on x.tag = true := by
  rw [conflictsAt_iff]
  cases ho : x.order with
  | none => simp
  | some o => simp [State.closeTo, h.listedDist_eq hx ho]

/-- While the list is spaced N conflicts with two orders of it at most. -/
theorem State.tableLaw.conflicts_length_le_two (h : s.tableLaw)
    (hs : spacedBy (s.station n).record.guard.toNat (s.listedDistances n)) (on : Pos) :
    ((s.items.filter (s.conflictsAt n on)).map ItemRecord.tag).length ≤ 2 := by
  have hsub : (s.items.filter (s.conflictsAt n on)).map ItemRecord.tag ⊆ (s.station n).list.filter (s.closeTo n on) := by
    intro y hy
    obtain ⟨x, hx, rfl⟩ := List.mem_map.1 hy
    obtain ⟨hxi, hc⟩ := List.mem_filter.1 hx
    obtain ⟨-, hlist, -, hclose⟩ := (h.conflictsAt_iff_closeTo hxi).1 hc
    exact List.mem_filter.2 ⟨hlist, hclose⟩
  have hnodup : ((s.items.filter (s.conflictsAt n on)).map ItemRecord.tag).Nodup := h.2.sublist (List.filter_sublist.map _)
  have hspaced : spacedBy (s.station n).record.guard.toNat (((s.station n).list.filter (s.closeTo n on)).map s.listedDist) :=
    hs.sublist (List.filter_sublist.map _)
  calc ((s.items.filter (s.conflictsAt n on)).map ItemRecord.tag).length
      ≤ ((s.station n).list.filter (s.closeTo n on)).length := (hnodup.subperm hsub).length_le
    _ = (((s.station n).list.filter (s.closeTo n on)).map s.listedDist).length := by rw [List.length_map]
    _ ≤ 2 := by
      refine spacedBy_length_le_two (d := aheadDist s.p on) hspaced fun e he => ?_
      obtain ⟨y, hy, rfl⟩ := List.mem_map.1 he
      simpa [State.closeTo] using (List.mem_filter.1 hy).2

end

/-- Settles O49. -/
theorem arbitrationIsByPriorityThenAge : Obligations.ArbitrationIsByPriorityThenAge := by
  intro s t v on conflicting hsound hconf
  have hiff : ∀ x, conflicting x ↔ x ∈ s.items ∧ s.conflictsAt v.station on x = true := fun x => by
    rw [hconf, conflictsAt_iff]
  refine ⟨?_, fun bumped hb => ?_⟩
  · rw [arbitrate_lost, engineConflict_iff, hsound.presence.beaten_iff]
    simp only [hiff]
  · obtain ⟨-, -, rfl⟩ := arbitrate_won.1 hb
    refine ⟨fun y => by simp [hiff], hsound.table.pairwise_age _, fun hs => ?_⟩
    obtain ⟨-, -, hspaced, -⟩ := hs v.station
    exact hsound.table.conflicts_length_le_two hspaced on

end Sys2Proof.Machine
end

section
/-! Spaced station lists (R108): the events that thin a list or leave it, and that these keep it spaced. -/

namespace Sys2Proof.Machine

section
variable {M L : Set StationNo} {P : ItemRecord → Prop} {s t a : State} {r : ItemRecord} {u w : Byte} {n : StationNo} {o : Order}

/-! ### The law of one station -/

/-- What R108 says of the list of station `n`, and, for the stations of `M` and of `L`, that P does not stand at the guard mark and
at no order of the list: then P may move on. -/
structure State.SpacedAt (M L : Set StationNo) (s : State) (n : StationNo) : Prop where
  guard  : 1 ≤ (s.station n).record.guard.toNat
  near   : ∀ d ∈ s.listedDistances n, d ≤ 8388607
  apart  : spacedBy (s.station n).record.guard.toNat (s.listedDistances n)
  mark   : ∀ m, (s.station n).guardMark = some m → ∀ d ∈ s.listedDistances n, aheadDist s.p m ≤ d
  passed : n ∈ M → (s.station n).guardMark ≠ some s.p
  taken  : n ∈ L → ∀ d ∈ s.listedDistances n, 1 ≤ d

theorem State.spacingLaw_iff : s.spacingLaw ↔ ∀ n, s.SpacedAt ∅ ∅ n := by
  refine forall_congr' fun n => ⟨?_, fun ⟨hg, hn, ha, hm, _, _⟩ => ⟨hg, hn, ha, hm⟩⟩
  rintro ⟨hg, hn, ha, hm⟩
  exact ⟨hg, hn, ha, hm, fun h => absurd h (Set.notMem_empty n), fun h => absurd h (Set.notMem_empty n)⟩

theorem State.SpacedAt.weaken (h : s.SpacedAt M L n) : s.SpacedAt ∅ ∅ n :=
  ⟨h.guard, h.near, h.apart, h.mark, fun hn => absurd hn (Set.notMem_empty n), fun hn => absurd hn (Set.notMem_empty n)⟩

/-- The law of a station reads P, the station, and the positions of its orders. -/
theorem State.SpacedAt.of_station (h : s.SpacedAt M L n) (hst : t.station n = s.station n) (hp : t.p = s.p)
    (hi : t.items = s.items) : t.SpacedAt M L n := by
  have hd : t.listedDistances n = s.listedDistances n := by
    simp [State.listedDistances, State.onPosOf, State.heldRecord, hst, hp, hi]
  obtain ⟨hguard, hnear, hapart, hmark, hpassed, htaken⟩ := h
  constructor <;> simpa only [hd, hst, hp]

/-- An empty list is spaced. -/
theorem State.SpacedAt.of_list_nil (hg : 1 ≤ (s.station n).record.guard.toNat) (hl : (s.station n).list = [])
    (hm : n ∈ M → (s.station n).guardMark ≠ some s.p) : s.SpacedAt M L n := by
  have hd : s.listedDistances n = [] := by simp [State.listedDistances, hl]
  exact ⟨hg, by simp [hd], by simp [hd, spacedBy], by simp [hd], hm, by simp [hd]⟩

/-- The orders behind the head of a spaced list are GUARD or more away. -/
theorem State.SpacedAt.guard_le_of_mem_tail (h : s.SpacedAt M L n) {rest : List Byte} (hl : (s.station n).list = u :: rest) {d : Nat}
    (hd : d ∈ rest.map s.listedDist) : (s.station n).record.guard.toNat ≤ d := by
  have ha := h.apart
  rw [State.listedDistances_eq, hl, List.map_cons] at ha
  exact (Nat.le_add_left _ _).trans ((List.pairwise_cons.1 ha).1 d hd)

/-! ### What thins the lists -/

/-- From `s` to `t` orders may leave their lists, and those that stay keep their positions; a guard mark stays, becomes invalid, or
is a new one that is neither at P nor behind an order of the list. -/
structure Thinned (t s : State) : Prop where
  p      : t.p = s.p
  record : ∀ n, (t.station n).record = (s.station n).record
  list   : ∀ n, (t.station n).list.Sublist (s.station n).list
  onPos  : ∀ n, ∀ w ∈ (t.station n).list, t.onPosOf w = s.onPosOf w
  mark   : ∀ n m, (t.station n).guardMark = some m →
    (s.station n).guardMark = some m ∨ (m ≠ t.p ∧ ∀ d ∈ t.listedDistances n, aheadDist t.p m ≤ d)

theorem Thinned.listedDist (h : Thinned t s) (hw : w ∈ (t.station n).list) : t.listedDist w = s.listedDist w := by
  rw [State.listedDist, h.onPos n w hw, h.p, State.listedDist]

theorem Thinned.distances (h : Thinned t s) (n : StationNo) : (t.listedDistances n).Sublist (s.listedDistances n) := by
  have heq : t.listedDistances n = (t.station n).list.map s.listedDist := List.map_congr_left fun _ hw => h.listedDist hw
  rw [heq]
  exact (h.list n).map _

theorem State.SpacedAt.thin (h : s.SpacedAt M L n) (ht : Thinned t s) : t.SpacedAt M L n where
  guard := by rw [ht.record]; exact h.guard
  near d hd := h.near d ((ht.distances n).mem hd)
  apart := by rw [ht.record]; exact h.apart.sublist (ht.distances n)
  mark m hm d hd := by
    obtain hm | ⟨-, hm⟩ := ht.mark n m hm
    · rw [ht.p]; exact h.mark m hm d ((ht.distances n).mem hd)
    · exact hm d hd
  passed hn hm := by
    obtain hm | ⟨hm, -⟩ := ht.mark n t.p hm
    · rw [ht.p] at hm; exact h.passed hn hm
    · exact hm rfl
  taken hn d hd := h.taken hn d ((ht.distances n).mem hd)

theorem Thinned.trans (h : Thinned t a) (h' : Thinned a s) : Thinned t s where
  p := h.p.trans h'.p
  record n := (h.record n).trans (h'.record n)
  list n := (h.list n).trans (h'.list n)
  onPos n w hw := (h.onPos n w hw).trans (h'.onPos n w ((h.list n).mem hw))
  mark n m hm := by
    obtain hm | hm := h.mark n m hm
    · obtain hm | ⟨hne, hle⟩ := h'.mark n m hm
      · exact .inl hm
      · exact .inr (by rw [h.p]; exact ⟨hne, fun d hd => hle d ((h.distances n).mem hd)⟩)
    · exact .inr hm

theorem onPosOf_congr (h : t.items = s.items) (w : Byte) : t.onPosOf w = s.onPosOf w := by
  simp [State.onPosOf, State.heldRecord, h]

/-- P, the stations and the positions of all orders as they were. -/
theorem Thinned.of_positions (hp : t.p = s.p) (hst : t.stations = s.stations)
    (ho : ∀ n, ∀ w ∈ (s.station n).list, t.onPosOf w = s.onPosOf w) : Thinned t s := by
  have hstation : ∀ n, t.station n = s.station n := fun n => by simp [State.station, hst]
  constructor
  case p => exact hp
  case record => exact fun n => by rw [hstation]
  case list => exact fun n => by rw [hstation]
  case onPos => exact fun n w hw => ho n w (hstation n ▸ hw)
  case mark => exact fun n m hm => .inl (hstation n ▸ hm)

/-- P, the stations and the records as they were. -/
theorem Thinned.of_kept (hp : t.p = s.p) (hst : t.stations = s.stations) (hi : t.items = s.items) : Thinned t s :=
  .of_positions hp hst fun _ w _ => onPosOf_congr hi w

theorem Thinned.refl (s : State) : Thinned s s := .of_kept rfl rfl rfl

theorem drainCheck_thinned (s : State) : Thinned (drainCheck s) s := .of_kept (by simp) (by simp) (by simp)

/-- A write of one station that makes no guard mark valid. -/
theorem setStation_thinned {x : Station} (hr : x.record = (s.station n).record) (hl : x.list.Sublist (s.station n).list)
    (hm : ∀ m, x.guardMark = some m → (s.station n).guardMark = some m) : Thinned (s.setStation n x) s where
  p := rfl
  record k := by rw [station_setStation]; split <;> simp [*]
  list k := by
    rw [station_setStation]
    split
    next e => exact e ▸ hl
    next => exact .refl _
  onPos _ _ _ := rfl
  mark k m hk := by
    rw [station_setStation] at hk
    split at hk
    next e => exact .inl (e ▸ hm m hk)
    next => exact .inl hk

theorem onPosOf_modifyRecord_ne {f : ItemRecord → ItemRecord} (htag : ∀ x, (f x).tag = x.tag) (hw : w ≠ u) :
    (s.modifyRecord u f).onPosOf w = s.onPosOf w := by
  simp [State.onPosOf, heldRecord_modifyRecord_ne s hw htag]

theorem onPosOf_modifyRecord {f : ItemRecord → ItemRecord} (htag : ∀ x, (f x).tag = x.tag) (ho : ∀ x, (f x).order = x.order)
    (w : Byte) : (s.modifyRecord u f).onPosOf w = s.onPosOf w := by
  rw [State.onPosOf, heldRecord_modifyRecord s u w htag, State.onPosOf]
  cases s.heldRecord w with
  | none => rfl
  | some x => by_cases e : x.tag = u <;> simp [e, ho]

/-- A change of a record that keeps its ORDER. -/
theorem modifyRecord_thinned {f : ItemRecord → ItemRecord} (htag : ∀ x, (f x).tag = x.tag) (ho : ∀ x, (f x).order = x.order) :
    Thinned (s.modifyRecord u f) s :=
  .of_positions rfl rfl fun _ w _ => onPosOf_modifyRecord htag ho w

theorem onPosOf_freeSlot_ne (hw : w ≠ u) : (s.freeSlot u).onPosOf w = s.onPosOf w := by
  have hfind : (s.freeSlot u).heldRecord w = s.heldRecord w := by
    simp only [State.heldRecord, State.freeSlot, List.find?_filter]
    congr 1
    funext x
    by_cases e : x.tag = w <;> simp [e, hw]
  simp [State.onPosOf, hfind]

/-- The slot of a record that no list names becomes free. -/
theorem freeSlot_thinned (h : ∀ n, u ∉ (s.station n).list) : Thinned (s.freeSlot u) s :=
  .of_positions rfl rfl fun n _ hw => onPosOf_freeSlot_ne fun e => h n (e ▸ hw)

/-! ### Retirement (R69) -/

theorem unlisted_guardMark (s : State) (r : ItemRecord) (n : StationNo) :
    (s.unlisted r n).guardMark = (s.station n).guardMark := by
  unfold State.unlisted
  split <;> rfl

theorem onPosOf_retire_ne (hw : w ≠ u) (c : OutcomeCode) : (retire u c s).onPosOf w = s.onPosOf w := by
  cases hf : s.liveRecord u with
  | none => rw [retire_absent hf]
  | some r =>
    obtain ⟨-, rfl, -⟩ := liveRecord_spec hf
    obtain ⟨hi, -⟩ | ⟨hi, -⟩ := retire_table (c := c) hf <;> rw [onPosOf_congr hi]
    · exact onPosOf_freeSlot_ne hw
    · exact onPosOf_modifyRecord_ne (by exact fun _ => rfl) hw

/-- A retirement thins the one list that names its record, where the lists name records as in the routed state `s`. -/
theorem State.Routed.retire_thinned (h : s.Routed) (hi : a.items = s.items)
    (hl : ∀ n, (a.station n).list.Sublist (s.station n).list) (u : Byte) (c : OutcomeCode) : Thinned (retire u c a) a := by
  cases hf : a.liveRecord u with
  | none => rw [retire_absent hf]; exact .refl a
  | some r =>
    obtain ⟨hr, rfl, -⟩ := liveRecord_spec hf
    have hgone : ∀ n, r.tag ∉ (a.unlisted r n).list := fun n hm => by
      obtain ⟨hm, hne⟩ := (mem_unlisted a r n r.tag).1 hm
      exact hne ⟨rfl, ((h.records r (hi ▸ hr)).listed n).1 ((hl n).mem hm)⟩
    constructor
    case p => simp
    case record => exact retire_record r.tag c a
    case list => exact fun n => by rw [retire_station hf]; exact unlisted_sublist a r n
    case onPos =>
      intro n w hw
      rw [retire_station hf] at hw
      exact onPosOf_retire_ne (fun e => hgone n (by rwa [e] at hw)) c
    case mark => exact fun n m hm => .inl (by rwa [retire_station hf, unlisted_guardMark] at hm)

theorem State.Routed.retireAndCheck_thinned (h : s.Routed) (u : Byte) (c : OutcomeCode) : Thinned (retireAndCheck u c s) s :=
  (drainCheck_thinned _).trans (h.retire_thinned rfl (fun _ => .refl _) u c)

/-- A retirement after a write of one station that lengthens no list. -/
theorem State.Routed.setStation_retire_thinned (h : s.Routed) {x : Station} (hr : x.record = (s.station n).record)
    (hl : x.list.Sublist (s.station n).list) (hm : ∀ m, x.guardMark = some m → (s.station n).guardMark = some m)
    (u : Byte) (c : OutcomeCode) : Thinned (retireAndCheck u c (s.setStation n x)) s := by
  have hset := setStation_thinned hr hl hm
  exact (drainCheck_thinned _).trans ((h.retire_thinned (by rfl) hset.list u c).trans hset)

/-! ### Guard marks, engines and arrivals (R111, R121 to R127) -/

theorem takeGuardMark_thinned (n : StationNo) (s : State) : Thinned (takeGuardMark n s) s := by
  unfold takeGuardMark
  split
  · exact setStation_thinned rfl (.refl _) (by simp)
  · exact .refl s

theorem takeGuardMark_passed (n : StationNo) (s : State) :
    ((takeGuardMark n s).station n).guardMark ≠ some (takeGuardMark n s).p := by
  by_cases h : (s.station n).guardMark = some s.p
  · rw [takeGuardMark_reached h]; simp
  · rwa [takeGuardMark_kept h]

theorem State.Routed.pulseEnd_thinned (h : s.Routed) (n : StationNo) (u : Byte) (c : OutcomeCode) : Thinned (pulseEnd n u c s) s := by
  refine h.setStation_retire_thinned ?_ ?_ ?_ u c
  exacts [rfl, .refl _, fun _ => id]

theorem State.Routed.takeTimePulseEnd_thinned (h : s.Routed) (n : StationNo) : Thinned (takeTimePulseEnd n s) s := by
  obtain e | ⟨q, c, -, e⟩ := takeTimePulseEnd_cases n s <;> rw [e]
  · exact .refl s
  · exact h.pulseEnd_thinned n q.tag c

theorem State.Routed.takeMaxOnCut_thinned (h : s.Routed) (n : StationNo) : Thinned (takeMaxOnCut n s) s := by
  obtain e | ⟨q, -, e⟩ := takeMaxOnCut_cases n s <;> rw [e]
  · exact .refl s
  · exact h.pulseEnd_thinned n q.tag .firedCut

theorem State.Routed.takeOffPosition_thinned (h : s.Routed) (n : StationNo) : Thinned (takeOffPosition n s) s := by
  obtain e | ⟨q, c, -, e⟩ := takeOffPosition_cases n s <;> rw [e]
  · exact .refl s
  · exact h.pulseEnd_thinned n q.tag c

theorem takeRecoveryEnd_thinned (n : StationNo) (s : State) : Thinned (takeRecoveryEnd n s) s := by
  unfold takeRecoveryEnd
  split
  · split
    · exact setStation_thinned rfl (.refl _) fun _ => id
    · exact .refl s
  · exact .refl s

theorem engineTick_thinned (n : StationNo) (s : State) : Thinned (engineTick n s) s := by
  unfold engineTick
  simp only
  split
  · exact (modifyRecord_thinned (by exact fun _ => rfl) (by exact fun _ => rfl)).trans
      (setStation_thinned rfl (.refl _) fun _ => id)
  · exact setStation_thinned rfl (.refl _) fun _ => id
  · exact .refl s
  · exact .refl s

theorem setLate_thinned (n : StationNo) (late : Bool) (s : State) :
    Thinned (s.setStation n { s.station n with tickLate := late }) s := setStation_thinned rfl (.refl _) fun _ => id

theorem takeLateTick_thinned (n : StationNo) (s : State) : Thinned (takeLateTick n s) s := by
  unfold takeLateTick
  split
  · exact (engineTick_thinned n _).trans (setLate_thinned n false s)
  · exact .refl s

/-- A guard mark GUARD beyond P (R110). -/
theorem aheadDist_add_guard (p : Pos) (g : Half) : aheadDist p (p + g.setWidth 24) = g.toNat := by
  unfold aheadDist
  bv_omega

/-- A pulse that starts takes the head off its list and puts the guard mark GUARD beyond P (R110, R121). -/
theorem State.SpacedAt.startPulse_thinned (h : s.SpacedAt M L n) {rest : List Byte} (hl : (s.station n).list = u :: rest)
    (o : Order) : Thinned (startPulse n u o s) s := by
  have hon : ∀ w, (startPulse n u o s).onPosOf w = s.onPosOf w := fun w => by
    rw [startPulse, onPosOf_modifyRecord (by exact fun _ => rfl) (by exact fun _ => rfl)]
    rfl
  have hstation : ∀ k, (startPulse n u o s).station k = if k = n then
      { s.station n with
        list := rest, guardMark := some (s.p + (s.station n).record.guard.setWidth 24), tickLate := false,
        engine := .on { tag := u, endRule := endRuleOf o.width (s.station n).record.maxOn, onTicks := 0 } }
      else s.station k := fun k => by
    rw [startPulse, station_modifyRecord, station_setStation, hl, List.tail_cons]
  constructor
  case p => rfl
  case record => intro k; rw [hstation]; split <;> simp [*]
  case list =>
    intro k
    rw [hstation]
    split
    next e => rw [e, hl]; exact List.sublist_cons_self u rest
    next => exact .refl _
  case onPos => exact fun _ w _ => hon w
  case mark =>
    intro k m hm
    rw [hstation] at hm
    split at hm
    next e =>
      obtain rfl := Option.some.inj hm
      have hdist := aheadDist_add_guard s.p (s.station n).record.guard
      refine .inr ⟨fun hp => ?_, fun d hd => ?_⟩
      · have hzero := h.guard
        rw [← hdist, hp] at hzero
        exact absurd (aheadDist_self s.p) (Nat.one_le_iff_ne_zero.1 hzero)
      · refine hdist.trans_le (h.guard_le_of_mem_tail hl ?_)
        rw [State.listedDistances_eq, hstation, if_pos e] at hd
        obtain ⟨w, hw, rfl⟩ := List.mem_map.1 hd
        exact List.mem_map.2 ⟨w, hw, by rw [State.listedDist, State.listedDist, hon]; rfl⟩
    next => exact .inl hm

theorem State.Routed.collide_thinned (h : s.Routed) (n : StationNo) (u : Byte) : Thinned (collide n u s) s := by
  refine h.setStation_retire_thinned ?_ ?_ ?_ u .collided
  exacts [rfl, List.tail_sublist _, fun _ => id]

theorem State.SpacedAt.takeArrival_thinned (h : s.SpacedAt M L n) (hrouted : s.Routed) : Thinned (takeArrival n s) s := by
  obtain e | ⟨u, o, ha, -, e⟩ | ⟨u, o, -, e⟩ := takeArrival_cases n s <;> rw [e]
  · exact .refl s
  · obtain ⟨rest, hl⟩ := arriving_list ha
    exact h.startPulse_thinned hl o
  · exact hrouted.collide_thinned n u

end

end Sys2Proof.Machine
end

section
/-! A placement keeps the station lists spaced (R112, R114): what is bumped, and where the new order stands. -/

namespace Sys2Proof.Machine

/-! ### A distance among spaced ones -/

/-- A number put in after the smaller ones and before the first that is not smaller. -/
def insertDist (d : Nat) (ds : List Nat) : List Nat :=
  ds.takeWhile (fun e => decide (e < d)) ++ d :: ds.dropWhile (fun e => decide (e < d))

theorem mem_insertDist {d e : Nat} {ds : List Nat} : e ∈ insertDist d ds ↔ e = d ∨ e ∈ ds := by
  have hsplit : e ∈ ds ↔ e ∈ ds.takeWhile (fun e => decide (e < d)) ∨ e ∈ ds.dropWhile (fun e => decide (e < d)) := by
    rw [← List.mem_append, List.takeWhile_append_dropWhile]
  rw [insertDist, List.mem_append, List.mem_cons, hsplit]
  exact or_left_comm

/-- Among numbers at least `g` apart and `g` or more from it, a number keeps them `g` apart. -/
theorem spacedBy_insertDist {g d : Nat} {ds : List Nat} (h : spacedBy g ds) (hd : ∀ e ∈ ds, d + g ≤ e ∨ e + g ≤ d) (hg : 1 ≤ g) :
    spacedBy g (insertDist d ds) := by
  induction ds with
  | nil => simp [insertDist, spacedBy]
  | cons e es ih =>
    obtain ⟨he, hes⟩ := List.pairwise_cons.1 h
    obtain ⟨hde, hdes⟩ := List.forall_mem_cons.1 hd
    by_cases hlt : e < d
    · have hcons : insertDist d (e :: es) = e :: insertDist d es := by simp [insertDist, hlt]
      rw [hcons]
      refine List.pairwise_cons.2 ⟨fun x hx => ?_, ih hes hdes⟩
      obtain rfl | hx := mem_insertDist.1 hx
      · omega
      · exact he x hx
    · have hcons : insertDist d (e :: es) = d :: e :: es := by simp [insertDist, hlt]
      rw [hcons]
      refine List.pairwise_cons.2 ⟨fun x hx => ?_, h⟩
      obtain rfl | hx := List.mem_cons.1 hx
      · omega
      · have := he x hx
        omega

section
variable {M L : Set StationNo} {P : ItemRecord → Prop} {s : State} {r : ItemRecord} {u w : Byte} {us : List Byte} {n : StationNo}
  {v : Verdict} {o : Order} {on : Pos}

/-! ### The bumps (R114 step 1) -/

@[simp] theorem retire_guardMark (u : Byte) (c : OutcomeCode) (s : State) (n : StationNo) :
    ((retire u c s).station n).guardMark = (s.station n).guardMark := by
  cases hf : s.liveRecord u with
  | none => rw [retire_absent hf]
  | some r => rw [retire_station hf, unlisted_guardMark]

theorem bumpAll_guardMark (us : List Byte) (s : State) (n : StationNo) :
    ((bumpAll us s).station n).guardMark = (s.station n).guardMark :=
  foldl_keeps (fun a => (a.station n).guardMark) _
    (fun a u => (congrArg (fun x : Vector Station 8 => x[n.val].guardMark) (drainCheck_stations _)).trans
      (retire_guardMark u .bumped a n)) us s

/-- The bumps thin the lists, and leave no record that they name live. -/
theorem State.Routed.bumpAll_thinned (h : s.Routed) (hf : s.Filed fun _ => True) (hb : s.Bumpable us) :
    Thinned (bumpAll us s) s ∧ ∀ x ∈ (bumpAll us s).items, x.tag ∈ us → x.state = .retired := by
  induction us generalizing s with
  | nil => exact ⟨.refl s, fun x _ hx => absurd hx List.not_mem_nil⟩
  | cons u us ih =>
    have h' := h.retireAndCheck_keeps hf hb.not_firing .bumped
    have hf' := hf.retireAndCheck_keeps u .bumped
    have hb' := hb.retireAndCheck_keeps (c := .bumped) hf
    obtain ⟨hthin, hret⟩ := ih h' hf' hb'
    obtain ⟨-, -, hkept⟩ := h'.bumpAll_keeps hf' hb'
    refine ⟨hthin.trans (h.retireAndCheck_thinned u .bumped), fun x hx hm => ?_⟩
    by_cases hus : x.tag ∈ us
    · exact hret x hx hus
    · exact hf.retired_of_retireAndCheck ((hkept x hus).1 hx) ((List.mem_cons.1 hm).resolve_right hus)

/-! ### The commit (R114 step 2) -/

theorem nearer_eq (h : 1 ≤ aheadDist s.p on) (w : Byte) : s.nearer on w = decide (s.listedDist w < aheadDist s.p on) := by
  unfold State.nearer State.listedDist
  cases s.onPosOf w with
  | none => simp [Nat.lt_of_succ_le h]
  | some q => simp

theorem commit_station (t : Byte) (v : Verdict) (o : Order) (s : State) (n : StationNo) :
    (commit t v o s).station n = if n = v.station then
      { s.station v.station with
        list := (s.station v.station).list.takeWhile (s.nearer o.onPos) ++
          t :: (s.station v.station).list.dropWhile (s.nearer o.onPos) }
      else s.station n := by
  rw [commit, station_modifyRecord, State.insertOrder, station_setStation]
  rfl

theorem listedDist_commit_ne (hw : w ≠ u) (v : Verdict) (o : Order) (s : State) :
    (commit u v o s).listedDist w = s.listedDist w := by
  rw [State.listedDist, commit, onPosOf_modifyRecord_ne (by exact fun _ => rfl) hw]
  rfl

theorem listedDist_commit_self (hr : s.heldRecord u = some r) (v : Verdict) (o : Order) :
    (commit u v o s).listedDist u = aheadDist s.p o.onPos := by
  obtain ⟨-, rfl⟩ := heldRecord_spec hr
  have hheld : ((s.dropAnnounce r.tag).insertOrder v.station r.tag o.onPos).heldRecord r.tag = some r := hr
  rw [State.listedDist, State.onPosOf, commit, heldRecord_modifyRecord _ _ _ (by exact fun _ => rfl), hheld]
  simp [State.insertOrder]

/-- The lists of the other stations keep their distances, and that of the order's station takes the new one in its place. -/
theorem listedDistances_commit (hr : s.heldRecord u = some r) (hun : ∀ n, u ∉ (s.station n).list)
    (hd : 1 ≤ aheadDist s.p o.onPos) (v : Verdict) (n : StationNo) :
    (commit u v o s).listedDistances n =
      if n = v.station then insertDist (aheadDist s.p o.onPos) (s.listedDistances n) else s.listedDistances n := by
  have hmap : ∀ ws : List Byte, u ∉ ws → ws.map (commit u v o s).listedDist = ws.map s.listedDist := fun ws hws =>
    List.map_congr_left fun w hw => listedDist_commit_ne (ne_of_mem_of_not_mem hw hws) v o s
  have hnearer : s.nearer o.onPos = (fun e => decide (e < aheadDist s.p o.onPos)) ∘ s.listedDist := funext (nearer_eq hd)
  rw [State.listedDistances_eq, commit_station]
  split
  next e =>
    subst e
    have htake := hmap _ fun hm => hun v.station ((List.takeWhile_sublist (s.nearer o.onPos)).mem hm)
    have hdrop := hmap _ fun hm => hun v.station ((List.dropWhile_sublist (s.nearer o.onPos)).mem hm)
    rw [List.map_append, List.map_cons, htake, hdrop, listedDist_commit_self hr, hnearer, insertDist, State.listedDistances_eq,
      List.takeWhile_map, List.dropWhile_map]
  next => exact hmap _ (hun n)

/-- A commit keeps the lists spaced when its order is ahead of P and of the guard mark and GUARD or more from every listed one. -/
theorem State.SpacedAt.commit_keeps (h : s.SpacedAt M L n) (hr : s.heldRecord u = some r) (hun : ∀ n, u ∉ (s.station n).list)
    (hahead : isAhead s.p o.onPos = true)
    (hmark : ∀ m, (s.station v.station).guardMark = some m → aheadDist s.p m ≤ aheadDist s.p o.onPos)
    (hgap : ∀ w ∈ (s.station v.station).list, s.closeTo v.station o.onPos w = false) :
    (commit u v o s).SpacedAt M L n := by
  obtain ⟨hpos, hnear⟩ := (isAhead_iff _ _).1 hahead
  have hdist := listedDistances_commit hr hun hpos v n
  have hrecord : ((commit u v o s).station n).record = (s.station n).record := by rw [commit_station]; split <;> simp [*]
  have hguard : ((commit u v o s).station n).guardMark = (s.station n).guardMark := by rw [commit_station]; split <;> simp [*]
  have hmem : ∀ d ∈ (commit u v o s).listedDistances n,
      d ∈ s.listedDistances n ∨ (n = v.station ∧ d = aheadDist s.p o.onPos) := fun d hd => by
    rw [hdist] at hd
    split at hd
    next e => exact (mem_insertDist.1 hd).symm.imp_right fun hd => ⟨e, hd⟩
    next => exact .inl hd
  constructor
  case guard => rw [hrecord]; exact h.guard
  case near =>
    intro d hd
    obtain hd | ⟨-, rfl⟩ := hmem d hd
    · exact h.near d hd
    · exact hnear
  case apart =>
    rw [hrecord, hdist]
    split
    next e =>
      subst e
      refine spacedBy_insertDist h.apart (fun d hd => ?_) h.guard
      obtain ⟨w, hw, rfl⟩ := List.mem_map.1 hd
      have hfar : aheadDist s.p o.onPos < s.listedDist w + (s.station v.station).record.guard.toNat →
          aheadDist s.p o.onPos + (s.station v.station).record.guard.toNat ≤ s.listedDist w := by
        simpa [State.closeTo] using hgap w hw
      change _ ≤ s.listedDist w ∨ s.listedDist w + _ ≤ _
      omega
    next => exact h.apart
  case mark =>
    intro m hm d hd
    rw [hguard] at hm
    obtain hd | ⟨rfl, rfl⟩ := hmem d hd
    · exact h.mark m hm d hd
    · exact hmark m hm
  case passed => rw [hguard]; exact h.passed
  case taken =>
    intro hn d hd
    obtain hd | ⟨-, rfl⟩ := hmem d hd
    · exact h.taken hn d hd
    · exact hpos

/-! ### The placement (R114) -/

/-- After the bumps of a won arbitration no order of the list is close to N. -/
theorem State.Routed.bumpAll_closeTo (h : s.Routed) (hf : s.Filed P)
    (hord : ∀ x ∈ s.items, x.state = .committed → x.order ≠ none) (ha : s.arbitrate u v on = some us)
    (hw : w ∈ ((bumpAll us s).station v.station).list) : (bumpAll us s).closeTo v.station on w = false := by
  have hf' : s.Filed fun _ => True := ⟨hf.table, hf.backlog, fun _ _ => trivial⟩
  have hb : s.Bumpable us := fun x hx hm => .inl (arbitrate_bumpable hf.table ha hx hm)
  obtain ⟨hrouted, -, hkept⟩ := h.bumpAll_keeps hf' hb
  obtain ⟨hthin, hret⟩ := h.bumpAll_thinned hf' hb
  obtain ⟨x, hx, rfl, hs, -⟩ := ((hrouted.listLaw v.station).2 w).1 hw
  have hnb : x.tag ∉ us := fun hm => by simp [hret x hx hm] at hs
  have hxs := (hkept x hnb).1 hx
  have hconf : s.conflictsAt v.station on x = false := Bool.eq_false_iff.2 fun hc => hnb <| by
    obtain ⟨-, -, rfl⟩ := arbitrate_won.1 ha
    exact List.mem_map.2 ⟨x, List.mem_filter.2 ⟨hxs, hc⟩, rfl⟩
  have hclose : (bumpAll us s).closeTo v.station on x.tag = s.closeTo v.station on x.tag := Bool.eq_iff_iff.2 <| by
    simp [State.closeTo, hthin.listedDist hw, hthin.record]
  rw [hclose]
  exact Bool.eq_false_iff.2 fun hc => Bool.eq_false_iff.1 hconf <|
    (hf.table.conflictsAt_iff_closeTo hxs).2 ⟨hs, (hthin.list v.station).mem hw, hord x hxs hs, hc⟩

/-- A placement that won keeps the lists spaced: the bumps thin them, and the order goes in where nothing is close. -/
theorem State.Routed.place_spacedAt (h : s.Routed) (hf : s.Filed P)
    (hord : ∀ x ∈ s.items, x.state = .committed → x.order ≠ none) (hsp : s.SpacedAt M L n) (hr : r ∈ s.items)
    (hs : r.state = .pending) (hahead : isAhead s.p o.onPos = true) (ha : s.arbitrate r.tag v o.onPos = some us) :
    (place r.tag v o us s).SpacedAt M L n := by
  have hf' : s.Filed fun _ => True := ⟨hf.table, hf.backlog, fun _ _ => trivial⟩
  have hb : s.Bumpable us := fun x hx hm => .inl (arbitrate_bumpable hf.table ha hx hm)
  obtain ⟨hrouted, hfiled, hkept⟩ := h.bumpAll_keeps hf' hb
  obtain ⟨hthin, -⟩ := h.bumpAll_thinned hf' hb
  have hrn : r.tag ∉ us := fun hm => by simp [arbitrate_bumpable hf.table ha hr hm] at hs
  have hru := (hkept r hrn).2 hr
  obtain ⟨hengine, -, -⟩ := arbitrate_won.1 ha
  refine (hsp.thin hthin).commit_keeps (hfiled.table.heldRecord_eq hru) ((hrouted.records r hru).not_listed hs) ?_ ?_
    fun w hw => h.bumpAll_closeTo hf hord ha hw
  · rwa [hthin.p]
  · intro m hm
    rw [bumpAll_guardMark] at hm
    rw [hthin.p]
    by_contra hlt
    exact Bool.eq_false_iff.1 hengine (engineConflict_iff.2 ⟨m, hm, (Nat.le_of_not_le hlt)⟩)

/-! ### The deadline (R58 to R60) -/

theorem State.presenceLaw.order_of_committed (h : s.presenceLaw) (hr : r ∈ s.items) (hs : r.state = .committed) :
    r.order ≠ none := by
  have hp := h r hr
  simp only [ItemRecord.presence, hs] at hp
  exact hp.2.2.1

theorem State.Holds.defaultEject_spacedAt (h : s.Holds State.Routed) (hsp : s.SpacedAt M L n) (hr : r ∈ s.items)
    (hs : r.state = .pending) : (defaultEject r s).SpacedAt M L n := by
  obtain ⟨v, hv⟩ : ∃ v, v = defaultVerdict r.snapshot := ⟨_, rfl⟩
  obtain ⟨a, ha⟩ : ∃ a, a = s.modifyRecord r.tag fun x => { x with verdict := some v } := ⟨_, rfl⟩
  have hrouted : a.Routed := ha ▸ h.law.takeVerdict_keeps h.toFiled hr hs v
  have hfiled : a.Filed fun _ => True := ha ▸
    h.toFiled.change (h.oneRecord_modifyRecord hr (by simp [hs]) (by exact fun _ => rfl) (by simp [hs])) fun _ _ => trivial
  have hspa : a.SpacedAt M L n := hsp.thin (ha ▸ modifyRecord_thinned (by exact fun _ => rfl) (by exact fun _ => rfl))
  have hra : { r with verdict := some v } ∈ a.items := ha ▸ mem_modifyRecord.2 (.inr ⟨r, hr, rfl, rfl⟩)
  have hord : ∀ x ∈ a.items, x.state = .committed → x.order ≠ none := fun x hx hxs => by
    rw [ha] at hx
    obtain ⟨hx, -⟩ | ⟨y, hy, hyt, rfl⟩ := mem_modifyRecord.1 hx
    · exact State.presenceLaw.order_of_committed h.records hx hxs
    · rw [h.table.tag_inj hr hy hyt] at hxs
      exact absurd (hs.symm.trans hxs) (by simp)
  have hret : ∀ c, (retireAndCheck r.tag c a).SpacedAt M L n := fun c => hspa.thin (hrouted.retireAndCheck_thinned r.tag c)
  rw [defaultEject_eq hv rfl ha]
  split
  · exact hret _
  · split
    · exact hret _
    next hahead =>
      split
      · exact hret _
      next harb =>
        have hp : a.p = s.p := by rw [ha]; rfl
        exact hrouted.place_spacedAt (r := { r with verdict := some v }) hfiled hord hspa hra hs
          (by simpa [hp] using hahead) harb

end

end Sys2Proof.Machine
end

section
/-! Spaced station lists (R108) over the lanes, the slots and halt entry. -/

namespace Sys2Proof.Machine

section
variable {M L : Set StationNo} {P : ItemRecord → Prop} {s t : State} {r : ItemRecord} {u w : Byte} {n : StationNo}

/-! ### Lanes (R40 to R45) -/

theorem State.Routed.takeJam_thinned (h : s.Routed) (l : LaneNo) : Thinned (takeJam l s) s := by
  cases hj : s.jamDue l with
  | none => rw [takeJam_notDue hj]; exact .refl s
  | some u =>
    have hlane : ∀ (a : State) x, Thinned { a.setLane l x with laneAlert := true } a := fun _ _ => .of_kept rfl rfl rfl
    rw [takeJam_due hj]
    exact (drainCheck_thinned _).trans ((hlane _ _).trans (h.retire_thinned rfl (fun _ => .refl _) u .overlength))

theorem setLane_thinned (l : LaneNo) (x : Lane) (s : State) : Thinned (s.setLane l x) s := .of_kept rfl rfl rfl

/-- A new record leaves the positions of the listed orders. -/
theorem State.Routed.allocate_thinned (h : s.Routed) (l : LaneNo) : Thinned (allocate l s) s := by
  refine .of_positions rfl rfl fun n w hw => ?_
  obtain ⟨r, hr, rfl⟩ := h.exists_record fun hn => hn.list n hw
  obtain ⟨x, hx⟩ : ∃ x, s.items.find? (fun y => y.tag == r.tag) = some x :=
    Option.isSome_iff_exists.1 (List.find?_isSome.2 ⟨r, hr, by simp⟩)
  simp [State.onPosOf, State.heldRecord, allocate, hx]

theorem State.Routed.takeLead_thinned (h : s.Routed) (l : LaneNo) : Thinned (takeLead l s) s := by
  unfold takeLead
  simp only
  split
  · split
    · exact (setLane_thinned l _ _).trans (h.allocate_thinned l)
    · exact .of_kept rfl rfl rfl
  · exact .refl s

/-- No list names a record that is not COMMITTED. -/
theorem State.Routes.not_listed_of_ne (h : s.Routes r) (hs : r.state ≠ .committed) (n : StationNo) : r.tag ∉ (s.station n).list :=
  fun hm => hs ((h.listed n).1 hm).1

theorem State.Holds.endMeasurement_thinned (h : s.Holds State.Routed) {l : LaneNo} {m : Measurement}
    (hm : (s.lane l).measurement = some m) : Thinned (endMeasurement l m.tag s) s := by
  obtain ⟨r, hr, hrt, hrs, -⟩ := h.measured hm
  unfold endMeasurement
  simp only
  rw [← hrt, h.table.liveRecord_eq hr (ItemRecord.isLive_iff.2 (by simp [hrs]))]
  simp only [hrs, ne_eq, not_true_eq_false, if_false]
  split
  · have hfree : Thinned (s.freeSlot r.tag) s := freeSlot_thinned ((h.law.records r hr).not_listed_of_ne (by simp [hrs]))
    exact (drainCheck_thinned _).trans ((setLane_thinned l _ _).trans hfree)
  · have hannounce : ∀ a : State, Thinned { a with announce := s.announce ++ [r.tag] } a := fun _ => .of_kept rfl rfl rfl
    exact (setLane_thinned l _ _).trans ((hannounce _).trans
      (modifyRecord_thinned (by exact fun _ => rfl) (by exact fun _ => rfl)))

theorem State.Holds.takeTrailing_thinned (h : s.Holds State.Routed) (l : LaneNo) : Thinned (Machine.takeTrailing l s) s := by
  refine Thinned.trans ?_ (h.law.takeJam_thinned l)
  have hj := h.takeJam routed_eventLaw l
  unfold Machine.takeTrailing takeTrailingNow
  simp only
  split
  · exact .refl _
  · exact .refl _
  · exact setLane_thinned l _ _
  · exact setLane_thinned l _ _
  · exact setLane_thinned l _ _
  · split
    next m hm => exact hj.endMeasurement_thinned hm
    next => exact setLane_thinned l _ _

theorem State.Holds.takeSense_thinned (h : s.Holds State.Routed) (l : LaneNo) (x : Sense) : Thinned (Machine.takeSense l x s) s := by
  cases x with
  | lead => exact h.law.takeLead_thinned l
  | trailing => exact h.takeTrailing_thinned l

theorem State.Holds.flushLane_thinned (h : s.Holds State.Routed) (l : LaneNo) : Thinned (Machine.flushLane l s) s := by
  unfold Machine.flushLane
  split
  · exact .refl s
  · exact ((h.setEdge routed_eventLaw l (s.lane l).filter none).takeSense_thinned l _).trans (setLane_thinned l _ s)

/-! ### The backlog (R71, R142) -/

theorem State.Routed.promote_thinned (h : s.Routed) (hf : s.Filed P) : Thinned (promote s) s := by
  cases hb : s.backlog with
  | nil => rw [promote_none (.inl hb)]; exact .refl s
  | cons u us =>
    by_cases hq : s.queue.length < 16
    · obtain ⟨r, hr, rfl, hs⟩ := (hf.backlog.2 u).1 (by simp [hb])
      have hkept : ∀ a : State, Thinned { a with backlog := us, queue := s.queue ++ [outcomeOf r (r.outcome.getD .halted)] } a :=
        fun _ => .of_kept rfl rfl rfl
      rw [promote_head hb hq (hf.table.heldRecord_eq hr)]
      exact (hkept _).trans (freeSlot_thinned ((h.records r hr).not_listed_of_ne (by simp [hs])))
    · rw [promote_none (.inr (Nat.not_lt.1 hq))]; exact .refl s

theorem State.Routed.doNextOutcome_thinned (h : s.Routed) (hf : s.Filed P) : Thinned (doNextOutcome s).2 s := by
  cases hq : s.queue with
  | nil => rw [doNextOutcome_empty hq]; exact .refl s
  | cons o rest =>
    have hkept : Thinned { s with queue := rest, reply := outcomeReply o } s := .of_kept rfl rfl rfl
    have hrouted : ({ s with queue := rest, reply := outcomeReply o } : State).Routed := h.congr rfl rfl rfl
    rw [doNextOutcome_head hq]
    exact (hrouted.promote_thinned (P := P) ⟨hf.table, hf.backlog, hf.records⟩).trans hkept

/-! ### Rest (R16, R22) -/

/-- A halt entry empties the lists. -/
theorem State.SpacedAt.haltEntry_keeps (h : s.SpacedAt M L n) (cause : HaltCause) : (haltEntry cause s).SpacedAt M L n := by
  have hstation := haltEntry_station cause s n
  refine .of_list_nil ?_ ?_ ?_ <;> rw [hstation]
  · exact h.guard
  · rfl
  · exact fun _ => by simp [Station.atHalt]

/-- In IDLE the lists are empty. -/
theorem State.Holds.list_nil (h : s.Holds State.Routed) (hi : s.run = .idle) (n : StationNo) : (s.station n).list = [] := by
  refine List.eq_nil_iff_forall_not_mem.2 fun w hw => ?_
  obtain ⟨r, hr, -, hs, -⟩ := ((h.law.listLaw n).2 w).1 hw
  obtain ⟨hlive, -⟩ := h.rest (.inl hi)
  simp [State.hasLive_eq_false.1 hlive r hr] at hs

/-- The reset state has empty lists, no guard mark, and the GUARD of Table 6.1. -/
theorem reset_spacedAt (n : StationNo) : State.reset.SpacedAt M L n := by
  have hstation : State.reset.station n = Station.reset := by fin_cases n <;> rfl
  refine .of_list_nil ?_ ?_ ?_ <;> rw [hstation]
  · decide
  · rfl
  · exact fun _ => by simp [Station.reset]

/-! ### P moves on (R5) -/

theorem aheadDist_succ {p x : Pos} (h : 1 ≤ aheadDist p x) : aheadDist (p + 1) x = aheadDist p x - 1 := by
  unfold aheadDist at *
  bv_omega

theorem aheadDist_pos {p x : Pos} (h : x ≠ p) : 1 ≤ aheadDist p x := by
  unfold aheadDist
  bv_omega

theorem listedDist_count (h : 1 ≤ s.listedDist w) : ({ s with p := s.p + 1 } : State).listedDist w = s.listedDist w - 1 := by
  unfold State.listedDist at *
  change ((s.onPosOf w).map (aheadDist (s.p + 1))).getD 0 = _
  cases ho : s.onPosOf w with
  | none => simp [ho] at h
  | some q =>
    simp only [ho, Option.map_some, Option.getD_some] at h ⊢
    exact aheadDist_succ h

/-- P moves on by one where it stands at no order and no guard mark: all distances shrink by one. -/
theorem State.SpacedAt.count_keeps (h : s.SpacedAt M L n) (hM : n ∈ M) (hL : n ∈ L) :
    ({ s with p := s.p + 1 } : State).SpacedAt ∅ ∅ n := by
  have hpos := h.taken hL
  have hdist : ({ s with p := s.p + 1 } : State).listedDistances n = (s.listedDistances n).map (· - 1) := by
    rw [State.listedDistances_eq, State.listedDistances_eq, List.map_map]
    exact List.map_congr_left fun w hw => listedDist_count (hpos _ (List.mem_map_of_mem hw))
  constructor
  case guard => exact h.guard
  case near =>
    rw [hdist]
    intro d hd
    obtain ⟨e, he, rfl⟩ := List.mem_map.1 hd
    exact (Nat.sub_le e 1).trans (h.near e he)
  case apart =>
    rw [hdist]
    refine List.pairwise_map.2 (h.apart.imp_of_mem fun {a b} ha _ hab => ?_)
    have := hpos a ha
    change a - 1 + (s.station n).record.guard.toNat ≤ b - 1
    omega
  case mark =>
    intro m hm d hd
    rw [hdist] at hd
    obtain ⟨e, he, rfl⟩ := List.mem_map.1 hd
    have hne : m ≠ s.p := fun e => h.passed hM (e ▸ hm)
    change aheadDist (s.p + 1) m ≤ e - 1
    rw [aheadDist_succ (aheadDist_pos hne)]
    exact Nat.sub_le_sub_right (h.mark m hm e he) 1
  case passed => exact fun hn => absurd hn (Set.notMem_empty n)
  case taken => exact fun hn => absurd hn (Set.notMem_empty n)

end

end Sys2Proof.Machine
end

section
/-! One walk for the spaced station lists (R108): every row keeps them, and before P moves on nothing that it has reached is left. -/

namespace Sys2Proof.Machine

/-- The coupled laws, the laws of the lists and the engines, and the spacing of every station list; `M` and `L` name the stations at
whose guard mark, and at whose orders, P does not stand. -/
structure State.Ordered (M L : Set StationNo) (s : State) : Prop extends State.Holds State.Routed s where
  spaced : ∀ n, s.SpacedAt M L n

section
variable {M L : Set StationNo} {s t : State} {n : StationNo} {u : Byte} {o : Order}

theorem State.Ordered.thin (h : s.Ordered M L) (ht : t.Holds State.Routed) (hthin : Thinned t s) : t.Ordered M L :=
  ⟨ht, fun n => (h.spaced n).thin hthin⟩

theorem State.Ordered.weaken (h : s.Ordered M L) : s.Ordered ∅ ∅ := ⟨h.toHolds, fun n => (h.spaced n).weaken⟩

/-- An event that leaves P, the stations and the records. -/
theorem State.Ordered.kept (h : s.Ordered M L) (ht : t.Holds State.Routed) (hp : t.p = s.p) (hst : t.stations = s.stations)
    (hi : t.items = s.items) : t.Ordered M L := h.thin ht (.of_kept hp hst hi)

/-- An event that writes none of the fields that the laws read. -/
theorem State.Ordered.frame (h : s.Ordered M L) (hi : t.items = s.items) (hann : t.announce = s.announce)
    (hb : t.backlog = s.backlog) (hp : t.p = s.p) (hrun : t.run = s.run) (hl : t.lanes = s.lanes) (hst : t.stations = s.stations)
    (ha : t.advanceDue = s.advanceDue) : t.Ordered M L :=
  h.kept ⟨h.toCoupled.frame hi hb hp hrun hl hst fun _ hd => ha ▸ hd, h.law.congr hi hann hst⟩ hp hst hi

/-! ### Stations and engines -/

theorem State.Ordered.takeGuardMark (h : s.Ordered M L) (n : StationNo) : (takeGuardMark n s).Ordered (insert n M) L := by
  have hthin := takeGuardMark_thinned n s
  refine ⟨h.toHolds.takeGuardMark routed_eventLaw n, fun k => { (h.spaced k).thin hthin with passed := fun hk => ?_ }⟩
  obtain rfl | hk := Set.mem_insert_iff.1 hk
  · exact takeGuardMark_passed k s
  · exact ((h.spaced k).thin hthin).passed hk

theorem State.Ordered.takeTimePulseEnd (h : s.Ordered M L) (n : StationNo) : (takeTimePulseEnd n s).Ordered M L :=
  h.thin (h.toHolds.takeTimePulseEnd routed_eventLaw n) (h.law.takeTimePulseEnd_thinned n)

theorem State.Ordered.takeMaxOnCut (h : s.Ordered M L) (n : StationNo) : (takeMaxOnCut n s).Ordered M L :=
  h.thin (h.toHolds.takeMaxOnCut routed_eventLaw n) (h.law.takeMaxOnCut_thinned n)

theorem State.Ordered.takeOffPosition (h : s.Ordered M L) (n : StationNo) : (takeOffPosition n s).Ordered M L :=
  h.thin (h.toHolds.takeOffPosition routed_eventLaw n) (h.law.takeOffPosition_thinned n)

theorem State.Ordered.takeRecoveryEnd (h : s.Ordered M L) (n : StationNo) : (takeRecoveryEnd n s).Ordered M L :=
  h.thin (h.toHolds.takeRecoveryEnd routed_eventLaw n) (takeRecoveryEnd_thinned n s)

theorem State.Ordered.engineTick (h : s.Ordered M L) (n : StationNo) : (engineTick n s).Ordered M L :=
  h.thin (h.toHolds.engineTick routed_eventLaw n) (engineTick_thinned n s)

theorem State.Ordered.setLate (h : s.Ordered M L) (n : StationNo) (late : Bool) :
    (s.setStation n { s.station n with tickLate := late }).Ordered M L :=
  h.thin (h.toHolds.setLate routed_eventLaw n late) (setLate_thinned n late s)

theorem State.Ordered.takeLateTick (h : s.Ordered M L) (n : StationNo) : (takeLateTick n s).Ordered M L :=
  h.thin (h.toHolds.takeLateTick routed_eventLaw n) (takeLateTick_thinned n s)

/-! ### Arrivals (R121, R122) -/

/-- The head of a list arrives exactly when P stands at its on position. -/
theorem State.Holds.arriving_eq (h : s.Holds State.Routed) {rest : List Byte} (hl : (s.station n).list = u :: rest) :
    ∃ o, s.onPosOf u = some o.onPos ∧ s.arriving n = if o.onPos = s.p then some (u, o) else none := by
  obtain ⟨r, hr, rfl, hs, -⟩ := ((h.law.listLaw n).2 u).1 (by simp [hl])
  obtain ⟨o, ho⟩ := Option.ne_none_iff_exists'.1 (State.presenceLaw.order_of_committed h.records hr hs)
  have hlive := h.table.liveRecord_eq hr (ItemRecord.isLive_iff.2 (by simp [hs]))
  exact ⟨o, h.table.onPosOf_eq hr ho, by simp [State.arriving, hl, hlive, hs, ho]⟩

/-- A head that arrives leaves its list. -/
theorem State.Holds.takeArrival_list (h : s.Holds State.Routed) (ha : s.arriving n = some (u, o)) :
    ((Machine.takeArrival n s).station n).list.Sublist (s.station n).list.tail := by
  obtain ⟨rest, hl⟩ := arriving_list ha
  have hcollide : ((collide n u s).station n).list.Sublist (s.station n).list.tail := by
    have htail : Thinned (s.setStation n { s.station n with list := (s.station n).list.tail }) s :=
      setStation_thinned rfl (List.tail_sublist _) fun _ => id
    have hret : Thinned (collide n u s) (s.setStation n { s.station n with list := (s.station n).list.tail }) :=
      (drainCheck_thinned _).trans (h.law.retire_thinned (by rfl) htail.list u .collided)
    have hlist := hret.list n
    rwa [station_setStation_self] at hlist
  unfold Machine.takeArrival
  rw [ha]
  cases he : (s.station n).engine with
  | disabled => simp [h.law.tidy.closed n he] at hl
  | offReady => simp [startPulse]
  | on q => exact hcollide
  | recovery c => exact hcollide

/-- The arrival taken, P stands at no order of the list. -/
theorem State.Ordered.takeArrival_taken (h : s.Ordered M L) (n : StationNo) :
    ∀ d ∈ (Machine.takeArrival n s).listedDistances n, 1 ≤ d := by
  have hsp := h.spaced n
  have hthin := hsp.takeArrival_thinned h.law
  intro d hd
  cases hl : (s.station n).list with
  | nil =>
    have hd' := (hthin.distances n).mem hd
    simp [State.listedDistances_eq, hl] at hd'
  | cons u rest =>
    have htail : ∀ e ∈ rest.map s.listedDist, 1 ≤ e := fun e he => hsp.guard.trans (hsp.guard_le_of_mem_tail hl he)
    obtain ⟨o, hon, ha⟩ := h.arriving_eq hl
    by_cases hp : o.onPos = s.p
    · rw [if_pos hp] at ha
      obtain ⟨w, hw, rfl⟩ := List.mem_map.1 hd
      have hrest := (h.takeArrival_list ha).mem hw
      rw [hl, List.tail_cons] at hrest
      exact htail _ (List.mem_map.2 ⟨w, hrest, (hthin.listedDist hw).symm⟩)
    · have hd' := (hthin.distances n).mem hd
      rw [State.listedDistances_eq, hl, List.map_cons] at hd'
      obtain rfl | hd' := List.mem_cons.1 hd'
      · simpa [State.listedDist, hon] using aheadDist_pos hp
      · exact htail d hd'

theorem State.Ordered.takeArrival (h : s.Ordered M L) (n : StationNo) : (takeArrival n s).Ordered M (insert n L) := by
  have hthin := (h.spaced n).takeArrival_thinned h.law
  refine ⟨h.toHolds.takeArrival routed_eventLaw n, fun k => { (h.spaced k).thin hthin with taken := fun hk => ?_ }⟩
  obtain rfl | hk := Set.mem_insert_iff.1 hk
  · exact h.takeArrival_taken k
  · exact ((h.spaced k).thin hthin).taken hk

/-! ### Records and lanes -/

theorem State.Ordered.takeDeadline (h : s.Ordered M L) (u : Byte) : (takeDeadline u s).Ordered M L := by
  refine ⟨h.toHolds.takeDeadline routed_eventLaw u, fun n => ?_⟩
  unfold Machine.takeDeadline
  split
  · exact h.spaced n
  next r hf =>
    obtain ⟨hr, rfl, -⟩ := liveRecord_spec hf
    split
    next hs =>
      split
      · exact (h.spaced n).thin (h.law.retireAndCheck_thinned r.tag _)
      · exact h.toHolds.defaultEject_spacedAt (h.spaced n) hr hs.1
    next => exact h.spaced n

theorem State.Ordered.takeJam (h : s.Ordered M L) (l : LaneNo) : (takeJam l s).Ordered M L :=
  h.thin (h.toHolds.takeJam routed_eventLaw l) (h.law.takeJam_thinned l)

theorem State.Ordered.takeSense (h : s.Ordered M L) (l : LaneNo) (x : Sense) : (takeSense l x s).Ordered M L :=
  h.thin (h.toHolds.takeSense routed_eventLaw l x) (h.toHolds.takeSense_thinned l x)

theorem State.Ordered.setEdge (h : s.Ordered M L) (l : LaneNo) (filter : Filter) (edge : Option EdgeDir) :
    (s.setLane l { s.lane l with filter, edge }).Ordered M L :=
  h.thin (h.toHolds.setEdge routed_eventLaw l filter edge) (setLane_thinned l _ s)

theorem State.Ordered.flushLane (h : s.Ordered M L) (l : LaneNo) : (flushLane l s).Ordered M L :=
  h.thin (h.toHolds.flushLane routed_eventLaw l) (h.toHolds.flushLane_thinned l)

theorem State.Ordered.drainCheck (h : s.Ordered M L) : (drainCheck s).Ordered M L :=
  h.thin (h.toHolds.drainCheck routed_eventLaw) (drainCheck_thinned s)

theorem State.Ordered.promote (h : s.Ordered M L) : (promote s).Ordered M L :=
  h.thin (h.toHolds.promote routed_eventLaw) (h.law.promote_thinned h.toFiled)

/-! ### Settling and the advance (R5, log 2) -/

theorem foldl_ordered {β : Type} {f : State → β → State} (hf : ∀ a b, a.Ordered M L → (f a b).Ordered M L) (xs : List β)
    (h : s.Ordered M L) : (xs.foldl f s).Ordered M L :=
  List.foldlRecOn xs f h fun a ha b _ => hf a b ha

theorem State.Ordered.forStations {f : StationNo → State → State} (hf : ∀ n a, a.Ordered M L → (f n a).Ordered M L)
    (h : s.Ordered M L) : (forStations f s).Ordered M L := foldl_ordered (fun a n => hf n a) allStations h

theorem State.Ordered.forLanes {f : LaneNo → State → State} (hf : ∀ l a, a.Ordered M L → (f l a).Ordered M L)
    (h : s.Ordered M L) : (forLanes f s).Ordered M L := foldl_ordered (fun a l => hf l a) allLanes h

/-- An event at every station adds every station to a set that it adds its own station to. -/
theorem forStations_insert {I : Set StationNo → State → Prop} {f : StationNo → State → State}
    (hf : ∀ n a M, I M a → I (insert n M) (f n a)) (h : I M s) : I Set.univ (Machine.forStations f s) := by
  have hfold : ∀ (ns : List StationNo) (M : Set StationNo) (a : State), I M a →
      I (M ∪ {n | n ∈ ns}) (ns.foldl (fun b n => f n b) a) := fun ns => by
    induction ns with
    | nil => intro M a ha; simpa using ha
    | cons n ns ih =>
      intro M a ha
      have hset : M ∪ {k | k ∈ n :: ns} = insert n M ∪ {k | k ∈ ns} := by ext k; simp [or_left_comm, or_assoc]
      rw [hset]
      exact ih _ _ (hf n a M ha)
  have hall : M ∪ {n | n ∈ allStations} = Set.univ :=
    Set.eq_univ_of_forall fun n => .inr (by fin_cases n <;> simp [allStations])
  exact hall ▸ hfold allStations M s h

/-- What P has reached is taken: it stands at no guard mark and at no order (R9). -/
theorem State.Ordered.settleReached (h : s.Ordered M L) : (settleReached s).Ordered Set.univ Set.univ := by
  have hmarks : (Machine.forStations Machine.takeGuardMark s).Ordered Set.univ L :=
    forStations_insert (I := fun M a => a.Ordered M L) (fun n _ _ ha => ha.takeGuardMark n) h
  have harrivals : (Machine.forStations Machine.takeArrival
      (Machine.forStations Machine.takeOffPosition (Machine.forStations Machine.takeGuardMark s))).Ordered Set.univ Set.univ :=
    forStations_insert (I := fun L a => a.Ordered Set.univ L) (fun n _ _ ha => ha.takeArrival n)
      (hmarks.forStations fun n _ ha => ha.takeOffPosition n)
  exact foldl_ordered (fun a u ha => ha.takeDeadline u) _ (harrivals.forLanes fun l _ ha => ha.takeJam l)

theorem State.Ordered.settleEngines (h : s.Ordered M L) : (settleEngines s).Ordered M L :=
  ((h.forStations fun n _ ha => ha.takeTimePulseEnd n).forStations fun n _ ha => ha.takeMaxOnCut n).forStations
    fun n _ ha => ha.takeRecoveryEnd n

theorem State.Ordered.settleDue (h : s.Ordered M L) : (settleDue s).Ordered ∅ ∅ := h.settleEngines.settleReached.weaken

theorem State.Ordered.advance (h : s.Ordered M L) : (advance s).Ordered ∅ ∅ := by
  have hs := h.settleReached
  refine ⟨h.toHolds.advance routed_eventLaw, fun n => ?_⟩
  cases hr : (Machine.settleReached s).running with
  | true => rw [advance_running rfl hr]; exact (hs.spaced n).count_keeps (Set.mem_univ n) (Set.mem_univ n)
  | false => rw [advance_resting rfl hr]; exact (hs.spaced n).weaken

theorem State.Ordered.dropAdvance (h : s.Ordered M L) : ({ s with advanceDue := false } : State).Ordered M L :=
  h.kept (h.toHolds.dropAdvance routed_eventLaw) rfl rfl rfl

theorem State.Ordered.takeDueAdvance (h : s.Ordered M L) : (takeDueAdvance s).Ordered ∅ ∅ := by
  unfold Machine.takeDueAdvance
  split
  · simp only
    split
    · exact h.dropAdvance.advance
    · exact h.dropAdvance.weaken
  · exact h.weaken

/-! ### XSTOP, the tick and the edges -/

theorem State.Ordered.haltEntry (h : s.Ordered M L) (cause : HaltCause) : (haltEntry cause s).Ordered M L :=
  ⟨h.toHolds.haltEntry routed_eventLaw cause, fun n => (h.spaced n).haltEntry_keeps cause⟩

theorem State.Ordered.takeXstop (h : s.Ordered M L) (d : EdgeDir) : (takeXstop d s).Ordered ∅ ∅ := by
  cases d with
  | rising => exact h.weaken
  | falling =>
    simp only [Machine.takeXstop]
    split
    · split
      · exact h.settleDue.haltEntry .xstop
      · exact h.settleDue
    · exact h.weaken

theorem State.Ordered.setXstop (h : s.Ordered M L) (filter : Filter) (edge : Option EdgeDir) :
    ({ s with xstopFilter := filter, xstopEdge := edge } : State).Ordered M L :=
  h.kept (h.toHolds.setXstop routed_eventLaw filter edge) rfl rfl rfl

theorem State.Ordered.flushXstop (h : s.Ordered M L) : (flushXstop s).Ordered ∅ ∅ := by
  unfold Machine.flushXstop
  split
  · exact h.weaken
  · exact (h.setXstop s.xstopFilter none).takeXstop _

theorem State.Ordered.finishTick (h : s.Ordered M L) : (finishTick s).Ordered ∅ ∅ :=
  (h.settleEngines.takeDueAdvance.forLanes fun l _ ha => ha.flushLane l).flushXstop

theorem State.Ordered.settleAll (h : s.Ordered M L) : (settleAll s).Ordered ∅ ∅ :=
  ((h.settleDue.takeDueAdvance.settleReached.forStations fun n _ ha => ha.takeLateTick n).settleEngines.forLanes
    fun l _ ha => ha.flushLane l).flushXstop

theorem sampleEncoder_thinned (x : Level) (s : State) : Thinned (sampleEncoder x s) s := .of_kept rfl rfl rfl

theorem countRate_thinned (s : State) : Thinned (countRate s) s := by
  unfold countRate
  split
  · split <;> exact .of_kept rfl rfl rfl
  · exact .refl s

theorem State.Ordered.tickNow (h : s.Ordered M L) (pins : PinSamples) (late : BitVec 8) : (tickNow pins late s).Ordered M L := by
  have h₀ : ({ s with divCount := s.timebase.divider } : State).Ordered M L :=
    h.frame rfl rfl rfl rfl rfl rfl rfl rfl
  have h₁ := h₀.thin (h₀.toHolds.sampleEncoder routed_eventLaw pins.enc) (sampleEncoder_thinned pins.enc _)
  have h₂ : (sampleLanes pins.sns (sampleXstop pins.xstop
      (sampleEncoder pins.enc { s with divCount := s.timebase.divider }))).Ordered M L :=
    (h₁.setXstop _ _).forLanes fun l _ ha => ha.setEdge l _ _
  unfold Machine.tickNow tickEngines
  refine (h₂.thin (h₂.toHolds.countRate routed_eventLaw) (countRate_thinned _)).forStations fun n a ha => ?_
  simp only
  split
  · exact ha.setLate n true
  · exact ha.engineTick n

theorem State.Ordered.edgeStart (h : s.Ordered M L) (waits : Bool) : (edgeStart waits s).Ordered ∅ ∅ := by
  unfold Machine.edgeStart
  split
  · exact h.weaken
  · exact h.finishTick

theorem State.Ordered.takeEncoder (h : s.Ordered M L) (d : EdgeDir) : (takeEncoder d s).Ordered ∅ ∅ := by
  have h' : ({ s with encFilter := filterAt s.encFilter (edgeLevel d) } : State).Ordered M L :=
    h.frame rfl rfl rfl rfl rfl rfl rfl rfl
  unfold Machine.takeEncoder
  simp only
  split
  · exact h'.advance
  · exact h'.weaken

theorem State.Ordered.laneEdge (h : s.Ordered M L) (l : LaneNo) (x : Sense) : (laneEdge l x s).Ordered ∅ ∅ :=
  ((h.edgeStart _).setEdge l _ none).takeSense l x

theorem State.Ordered.xstopChange (h : s.Ordered M L) (d : EdgeDir) : (xstopChange d s).Ordered ∅ ∅ :=
  ((h.edgeStart _).setXstop _ none).takeXstop d

theorem State.Ordered.takeRateExpiry (h : s.Ordered M L) : (takeRateExpiry s).Ordered ∅ ∅ := by
  unfold Machine.takeRateExpiry
  split
  · exact h.takeDueAdvance
  · exact h.weaken

end

end Sys2Proof.Machine
end

section
/-! Spaced station lists (R108) over the commands and the rows. -/

namespace Sys2Proof.Machine

section
variable {M L : Set StationNo} {s t : State} {n : StationNo}

/-! ### The commands -/

/-- START, RESUME and the settings but those of P and the stations. -/
theorem settings_thinned (s : State) : Thinned (doStart s).2 s ∧ Thinned (doResume s).2 s ∧ Thinned (doSetTimebase s).2 s ∧
    Thinned (doSetLane s).2 s ∧ Thinned (doSetProfile s).2 s ∧ Thinned (doSetFreeThreshold s).2 s := by
  refine ⟨?_, ?_, ?_, ?_, ?_, ?_⟩
  · unfold doStart; (repeat' split) <;> exact .of_kept rfl rfl rfl
  · unfold doResume; (repeat' split) <;> exact .of_kept rfl rfl rfl
  · unfold doSetTimebase; (repeat' split) <;> exact .of_kept rfl rfl rfl
  · unfold doSetLane; split <;> exact .of_kept rfl rfl rfl
  · unfold doSetProfile; split <;> exact .of_kept rfl rfl rfl
  · unfold doSetFreeThreshold; split <;> exact .of_kept rfl rfl rfl

/-- The reads fill the reply window, and NEXT_DETECTION shortens the announce list. -/
theorem reads_thinned (s : State) : Thinned (doReadLane s).2 s ∧ Thinned (doReadStation s).2 s ∧ Thinned (doReadProfile s).2 s ∧
    Thinned (doReadItem s).2 s ∧ Thinned (doReadTimebase s).2 s ∧ Thinned (doNextDetection s).2 s := by
  refine ⟨?_, ?_, ?_, ?_, .of_kept rfl rfl rfl, ?_⟩
  · unfold doReadLane; split <;> exact .of_kept rfl rfl rfl
  · unfold doReadStation; split <;> exact .of_kept rfl rfl rfl
  · unfold doReadProfile; split <;> exact .of_kept rfl rfl rfl
  · unfold doReadItem; split <;> exact .of_kept rfl rfl rfl
  · unfold doNextDetection; (repeat' split) <;> exact .of_kept rfl rfl rfl

theorem doDrain_thinned (s : State) : Thinned (doDrain s).2 s := by
  unfold doDrain
  split
  · exact .refl s
  · exact (drainCheck_thinned _).trans (.of_kept rfl rfl rfl)

theorem State.Ordered.doHalt (h : s.Ordered ∅ ∅) (n : StationNo) : (doHalt s).2.SpacedAt ∅ ∅ n := by
  obtain ⟨a, ha, hd⟩ : ∃ a, a = Machine.settleDue s ∧ a.Ordered ∅ ∅ := ⟨_, rfl, h.settleDue⟩
  cases hr : s.running with
  | false => rw [doHalt_refused hr]; exact h.spaced n
  | true =>
    cases hra : a.running with
    | false => rw [doHalt_ended hr ha hra]; exact hd.spaced n
    | true => rw [doHalt_taken hr ha hra]; exact (hd.haltEntry .command).spaced n

/-- CLEAR_LINE and SET_POSITION act in IDLE, where the lists are empty (R14, R26). -/
theorem State.Ordered.doClearLine (h : s.Ordered ∅ ∅) (n : StationNo) : (doClearLine s).2.SpacedAt ∅ ∅ n := by
  unfold Machine.doClearLine
  split
  · exact h.spaced n
  next hi => exact .of_list_nil (h.spaced n).guard (h.list_nil (not_not.1 hi) n) (h.spaced n).passed

theorem State.Ordered.doSetPosition (h : s.Ordered ∅ ∅) (n : StationNo) : (doSetPosition s).2.SpacedAt ∅ ∅ n := by
  by_cases hi : s.run = .idle
  · rw [doSetPosition_taken hi]
    have hstation : ∀ p, ({ s with p := p, stations := s.stations.map (fun x => { x with guardMark := none }) } : State).station n =
        { s.station n with guardMark := none } := fun p => by simp [State.station]
    refine .of_list_nil ?_ ?_ ?_ <;> rw [hstation]
    · exact (h.spaced n).guard
    · exact h.list_nil hi n
    · simp
  · rw [doSetPosition_refused hi]; exact h.spaced n

/-- SET_STATION writes a station whose list is empty, with a GUARD of 1 or more (R97, R98). -/
theorem State.Ordered.doSetStation (h : s.Ordered ∅ ∅) (n : StationNo) : (doSetStation s).2.SpacedAt ∅ ∅ n := by
  cases hp : stationOf s.params with
  | none => rw [doSetStation_param hp]; exact h.spaced n
  | some x =>
    obtain ⟨k, r⟩ := x
    obtain ⟨-, -, -, -, hg, -, hguard⟩ := stationOf_some hp
    cases hb : (s.station k).busy with
    | true => rw [doSetStation_busy hp hb]; exact h.spaced n
    | false =>
      obtain ⟨hlist, -⟩ := Station.not_busy hb
      rw [doSetStation_taken hp hb]
      by_cases e : n = k
      · subst e
        refine .of_list_nil ?_ ?_ fun hn => absurd hn (Set.notMem_empty n) <;> rw [station_setStation_self]
        · rw [hguard]; exact hg
        · exact hlist
      · exact (h.spaced n).of_station (station_setStation_ne s _ e) rfl rfl

theorem State.Ordered.doVerdict (h : s.Ordered ∅ ∅) (n : StationNo) : (doVerdict s).2.SpacedAt ∅ ∅ n := by
  unfold Machine.doVerdict
  split
  · exact h.spaced n
  next r hk =>
    split
    next => exact h.spaced n
    next hs =>
      unfold verdictPending
      split
      · exact h.spaced n
      · simp only
        split
        · exact h.spaced n
        · split
          · exact h.spaced n
          · split
            · exact h.spaced n
            next hahead =>
              split
              · exact h.spaced n
              next ha =>
                exact h.law.place_spacedAt h.toFiled (fun x hx => State.presenceLaw.order_of_committed h.records hx) (h.spaced n)
                  (keyCheck_spec hk) hs (by simpa using hahead) ha
    all_goals exact h.spaced n

theorem State.Ordered.doPass (h : s.Ordered ∅ ∅) (n : StationNo) : (doPass s).2.SpacedAt ∅ ∅ n := by
  unfold Machine.doPass
  split
  · exact h.spaced n
  · split
    next => exact h.spaced n
    next => exact (h.spaced n).thin (h.law.retireAndCheck_thinned _ .passed)
    all_goals exact h.spaced n

theorem State.Ordered.doAbort (h : s.Ordered ∅ ∅) (n : StationNo) : (doAbort s).2.SpacedAt ∅ ∅ n := by
  unfold Machine.doAbort
  split
  · exact h.spaced n
  · split
    next => exact h.spaced n
    next => exact (h.spaced n).thin (h.law.retireAndCheck_thinned _ .aborted)
    next => exact (h.spaced n).thin (h.law.retireAndCheck_thinned _ .aborted)
    all_goals exact h.spaced n

theorem State.Ordered.commandBody (h : s.Ordered ∅ ∅) (c : HostCommand) (n : StationNo) : (commandBody c s).2.SpacedAt ∅ ∅ n := by
  obtain ⟨hstart, hresume, htimebase, hlane, hprofile, hthreshold⟩ := settings_thinned s
  obtain ⟨hreadLane, hreadStation, hreadProfile, hreadItem, hreadTimebase, hdetection⟩ := reads_thinned s
  cases c with
  | start => exact (h.spaced n).thin hstart
  | drain => exact (h.spaced n).thin (doDrain_thinned s)
  | halt => exact h.doHalt n
  | resume => exact (h.spaced n).thin hresume
  | clearLine => exact h.doClearLine n
  | setTimebase => exact (h.spaced n).thin htimebase
  | setPosition => exact h.doSetPosition n
  | setLane => exact (h.spaced n).thin hlane
  | setStation => exact h.doSetStation n
  | setProfile => exact (h.spaced n).thin hprofile
  | setFreeThreshold => exact (h.spaced n).thin hthreshold
  | readLane => exact (h.spaced n).thin hreadLane
  | readStation => exact (h.spaced n).thin hreadStation
  | readProfile => exact (h.spaced n).thin hreadProfile
  | readItem => exact (h.spaced n).thin hreadItem
  | readTimebase => exact (h.spaced n).thin hreadTimebase
  | nextDetection => exact (h.spaced n).thin hdetection
  | nextOutcome => exact (h.spaced n).thin (h.law.doNextOutcome_thinned h.toFiled)
  | verdict => exact h.doVerdict n
  | pass => exact h.doPass n
  | abort => exact h.doAbort n

/-! ### The rows -/

/-- A row that is an event of `f` keeps the lists spaced where `f` does. -/
theorem State.Ordered.event {f : State → State} (h : s.Ordered ∅ ∅) (hf : s.Ordered ∅ ∅ → (f s).Ordered ∅ ∅) :
    (event f s).Ordered ∅ ∅ := by
  unfold Machine.event
  split
  · exact h
  · exact hf h

theorem State.Ordered.access {f : State → State} (h : s.Ordered ∅ ∅) (hf : ∀ a, a.Ordered ∅ ∅ → (f a).Ordered ∅ ∅) :
    (access f s).Ordered ∅ ∅ := h.event fun h => hf _ h.finishTick

theorem State.Ordered.runCommand (h : s.Ordered ∅ ∅) (c : HostCommand) : (runCommand c s).Ordered ∅ ∅ := by
  refine ⟨h.toHolds.runCommand routed_eventLaw c, fun n => ?_⟩
  have hbody := h.finishTick.commandBody c n
  unfold Machine.runCommand
  split
  · exact h.spaced n
  · exact hbody.thin (.of_kept rfl rfl rfl)

theorem State.Ordered.writeCmd (h : s.Ordered ∅ ∅) (b : Byte) : (writeCmd b s).Ordered ∅ ∅ := by
  unfold Machine.writeCmd
  split
  · exact h.runCommand _
  · exact h.event fun h => h.frame rfl rfl rfl rfl rfl rfl rfl rfl

theorem State.Ordered.clearFlags (h : s.Ordered ∅ ∅) (b : Byte) : (clearFlags b s).Ordered ∅ ∅ :=
  h.access fun _ ha => ha.frame rfl rfl rfl rfl rfl rfl rfl rfl

theorem State.Ordered.writeWindow (h : s.Ordered ∅ ∅) (params : Vector Byte 12) (enables : BitVec 7) :
    ({ s with params, enables } : State).Ordered ∅ ∅ :=
  h.kept (h.toHolds.writeWindow routed_eventLaw params enables) rfl rfl rfl

theorem State.Ordered.deliver (h : s.Ordered ∅ ∅) (a : BitVec 6) (b : Byte) : (deliver a b s).Ordered ∅ ∅ := by
  unfold Machine.deliver
  simp only
  split
  · exact h.writeCmd b
  · split
    · exact h.writeWindow _ s.enables
    · split
      · exact h.clearFlags b
      · split
        · exact h.writeWindow s.params _
        · exact h

/-- The reset state, whatever commands wait, and whether it is held (R162). -/
theorem resetState_ordered (s : State) (held : Bool) : ({ resetState s with inReset := held } : State).Ordered ∅ ∅ :=
  ⟨routed_eventLaw.resetState s held, fun n => (reset_spacedAt n).thin (.of_kept rfl rfl rfl)⟩

/-- Every row keeps the lists spaced. -/
theorem State.Ordered.exec (h : s.Ordered ∅ ∅) {c : Instr} (he : exec c s = .next t) : t.Ordered ∅ ∅ := by
  cases c <;> obtain rfl := Host.Outcome.next.inj he
  case badCommand b => exact h.writeCmd b
  case paramWrite => exact h.event fun h => h.writeWindow _ s.enables
  case irqEnableWrite => exact h.event fun h => h.writeWindow s.params _
  case irqFlagsWrite b => exact h.clearFlags b
  case pos0Read =>
    exact h.access fun _ ha => ha.frame rfl rfl rfl rfl rfl rfl rfl rfl
  case registerWrite a b y =>
    refine h.event fun h => ?_
    split
    · exact h.deliver a b
    · exact h
  case reset k =>
    split
    · exact resetState_ordered s true
    · exact h
  case resetRelease =>
    split
    · exact resetState_ordered s false
    · exact h
  case tick pins late => exact h.event fun h => h.settleAll.tickNow pins late
  case encoderEdge d => exact h.event fun h => (h.edgeStart _).dropAdvance.takeEncoder d
  case rateCountdownExpiry => exact h.event fun h => h.takeRateExpiry
  case xstopActive => exact h.event fun h => h.xstopChange .falling
  case xstopInactive => exact h.event fun h => h.xstopChange .rising
  case leadEdge l => exact h.event fun h => h.laneEdge l .lead
  case trailingEdge l => exact h.event fun h => h.laneEdge l .trailing
  case jam l => exact h.event fun h => h.takeJam l
  case deadline u => exact h.event fun h => h.takeDeadline u
  case arrival k => exact h.event fun h => (h.takeArrival k).weaken
  case offPositionReached k => exact h.event fun h => h.takeOffPosition k
  case timePulseEnd k => exact h.event fun h => (h.takeLateTick k).takeTimePulseEnd k
  case maxOnCut k => exact h.event fun h => (h.takeLateTick k).takeMaxOnCut k
  case recoveryEnd k => exact h.event fun h => (h.takeLateTick k).takeRecoveryEnd k
  case guardMarkReached k => exact h.event fun h => (h.takeGuardMark k).weaken
  case drainCompletion => exact h.event fun h => h.drainCheck
  case backlogPromotion => exact h.event fun h => h.promote
  all_goals exact h.runCommand _

/-- A step keeps the lists spaced. -/
theorem State.Ordered.step (h : s.Ordered ∅ ∅) (hs : step s = .next t) : t.Ordered ∅ ∅ := by
  unfold Machine.step at hs
  split at hs
  · obtain rfl := Host.Outcome.next.inj hs
    rw [idleClock_eq]
    exact h.frame rfl rfl rfl rfl rfl rfl rfl rfl
  next c rest _ =>
    have h' : ({ s with pending := rest } : State).Ordered ∅ ∅ :=
      h.frame rfl rfl rfl rfl rfl rfl rfl rfl
    exact h'.exec hs

end

/-- Settles O60: a placement puts an order where nothing is close, arrivals and guard marks are taken before P moves on, and every
other event thins the lists or leaves them. -/
theorem stepKeepsStationListsSpaced : Obligations.StepKeepsStationListsSpaced := by
  intro s t hs hsp ht
  have h : s.Ordered ∅ ∅ := ⟨⟨hs.coupled, hs.routed⟩, State.spacingLaw_iff.1 hsp⟩
  exact State.spacingLaw_iff.2 (h.step ht).spaced

end Sys2Proof.Machine
end

section
/-! The engines by themselves: the arrival that fires or collides, the tick taken after the advance, and the ends of pulses and
recoveries (R121 to R127). -/

namespace Sys2Proof.Machine

section
variable {s : State} {n : StationNo} {t : Byte} {o : Order}

/-! ### Arrivals (R121, R122) -/

theorem exec_arrival (hreset : s.inReset = false) : exec (.arrival n) s = .next (takeArrival n s) :=
  congrArg _ (event_taken hreset)

/-- The head of a list is a COMMITTED record (R108), so its order arrives exactly when P stands at its on position. -/
theorem State.Sound.arriving_eq (h : s.Sound) {r : ItemRecord} {rest : List Byte} (hl : (s.station n).list = t :: rest)
    (hr : r ∈ s.items) (ht : r.tag = t) (ho : r.order = some o) :
    s.arriving n = if o.onPos = s.p then some (t, o) else none := by
  obtain ⟨x, hx, hxt, hs, -⟩ := ((h.lists n).2 t).1 (by simp [hl])
  obtain rfl : x = r := h.table.tag_inj hr hx (hxt.trans ht.symm)
  subst ht
  have hlive := h.table.liveRecord_eq hr (ItemRecord.isLive_iff.2 (by simp [hs]))
  simp [State.arriving, hl, hlive, hs, ho]

theorem arriving_nil (hl : (s.station n).list = []) : s.arriving n = none := by simp [State.arriving, hl]

theorem takeArrival_absent (ha : s.arriving n = none) : takeArrival n s = s := by simp [takeArrival, ha]

theorem takeArrival_fires (ha : s.arriving n = some (t, o)) (he : (s.station n).engine = .offReady) :
    takeArrival n s = startPulse n t o s := by
  simp [takeArrival, ha, he]

theorem takeArrival_collides (ha : s.arriving n = some (t, o))
    (he : (∃ q, (s.station n).engine = .on q) ∨ ∃ c, (s.station n).engine = .recovery c) :
    takeArrival n s = collide n t s := by
  obtain ⟨q, he⟩ | ⟨c, he⟩ := he <;> simp [takeArrival, ha, he]

/-! ### The tick after the advance (R123, R127, log 4) -/

theorem setStation_setStation (s : State) (n : StationNo) (x y : Station) :
    (s.setStation n x).setStation n y = s.setStation n y := by
  simp [State.setStation]

theorem engineTick_on {q : Pulse} (he : (s.station n).engine = .on q) :
    engineTick n s =
      (s.setStation n { s.station n with engine := .on { q with onTicks := satInc q.onTicks } }).modifyRecord q.tag
        fun r => { r with firing := r.firing.map fun f => { f with onTicks := satInc q.onTicks } } := by
  simp [engineTick, he]

theorem engineTick_recovery {c : Half} (he : (s.station n).engine = .recovery c) :
    engineTick n s = s.setStation n { s.station n with engine := .recovery (c - 1) } := by
  simp [engineTick, he]

theorem engineTick_atRest (he : (s.station n).engine = .offReady ∨ (s.station n).engine = .disabled) : engineTick n s = s := by
  obtain he | he := he <;> simp [engineTick, he]

/-- Taking a tick is one thing, having one still to take another: `takeLateTick` alone clears that. -/
theorem engineTick_tickLate (n : StationNo) (s : State) :
    ((engineTick n s).station n).tickLate = (s.station n).tickLate := by
  cases he : (s.station n).engine with
  | disabled => rw [engineTick_atRest (.inr he)]
  | offReady => rw [engineTick_atRest (.inl he)]
  | on q => rw [engineTick_on he, station_modifyRecord, station_setStation_self]
  | recovery c => rw [engineTick_recovery he, station_setStation_self]

theorem takeLateTick_none (hl : (s.station n).tickLate = false) : takeLateTick n s = s := by simp [takeLateTick, hl]

theorem takeLateTick_late (hl : (s.station n).tickLate = true) :
    takeLateTick n s = engineTick n (s.setStation n { s.station n with tickLate := false }) := if_pos hl

/-- Once the late tick is taken, the engine has none to take. -/
theorem takeLateTick_tickLate (n : StationNo) (s : State) : ((takeLateTick n s).station n).tickLate = false := by
  cases hl : (s.station n).tickLate with
  | false => rw [takeLateTick_none hl, hl]
  | true => rw [takeLateTick_late hl, engineTick_tickLate, station_setStation_self]

/-- A late tick is an on-tick of an engine that is ON (R123). -/
theorem takeLateTick_on {q : Pulse} (hl : (s.station n).tickLate = true) (he : (s.station n).engine = .on q) :
    takeLateTick n s =
      (s.setStation n
        { s.station n with tickLate := false, engine := .on { q with onTicks := satInc q.onTicks } }).modifyRecord q.tag
        fun r => { r with firing := r.firing.map fun f => { f with onTicks := satInc q.onTicks } } := by
  rw [takeLateTick_late hl, engineTick_on (q := q) (by simpa using he), setStation_setStation, station_setStation_self]

/-- A late tick counts a recovery down (R127). -/
theorem takeLateTick_recovery {c : Half} (hl : (s.station n).tickLate = true) (he : (s.station n).engine = .recovery c) :
    takeLateTick n s = s.setStation n { s.station n with tickLate := false, engine := .recovery (c - 1) } := by
  rw [takeLateTick_late hl, engineTick_recovery (c := c) (by simpa using he), setStation_setStation, station_setStation_self]

theorem takeLateTick_atRest (hl : (s.station n).tickLate = true)
    (he : (s.station n).engine = .offReady ∨ (s.station n).engine = .disabled) :
    takeLateTick n s = s.setStation n { s.station n with tickLate := false } := by
  rw [takeLateTick_late hl, engineTick_atRest (by simpa using he)]

/-! ### The ends of pulses and recoveries (R124 to R127) -/

theorem exec_timePulseEnd (hreset : s.inReset = false) :
    exec (.timePulseEnd n) s = .next (takeTimePulseEnd n (takeLateTick n s)) :=
  congrArg _ (event_taken hreset)

theorem exec_recoveryEnd (hreset : s.inReset = false) :
    exec (.recoveryEnd n) s = .next (takeRecoveryEnd n (takeLateTick n s)) :=
  congrArg _ (event_taken hreset)

theorem exec_maxOnCut (hreset : s.inReset = false) : exec (.maxOnCut n) s = .next (takeMaxOnCut n (takeLateTick n s)) :=
  congrArg _ (event_taken hreset)

theorem exec_offPositionReached (hreset : s.inReset = false) :
    exec (.offPositionReached n) s = .next (takeOffPosition n s) :=
  congrArg _ (event_taken hreset)

/-- The end of a pulse at a station that has taken its late tick (R126). -/
theorem pulseEnd_takeLateTick (n : StationNo) (t : Byte) (c : OutcomeCode) (s : State) :
    pulseEnd n t c (takeLateTick n s) =
      retireAndCheck t c ((takeLateTick n s).setStation n
        { (takeLateTick n s).station n with engine := ((takeLateTick n s).station n).afterPulse }) := by
  rw [pulseEnd_eq, ← takeLateTick_tickLate n s]

section
variable {e w mx c : Half} {off : Pos}

theorem takeTimePulseEnd_time (he : (s.station n).engine = .on ⟨t, .time e w, c⟩) :
    takeTimePulseEnd n s = if c = e then pulseEnd n t (if w = e then .fired else .firedCut) s else s := by
  simp [takeTimePulseEnd, he]

theorem takeTimePulseEnd_other (he : ∀ t e w c, (s.station n).engine ≠ .on ⟨t, .time e w, c⟩) :
    takeTimePulseEnd n s = s := by
  unfold takeTimePulseEnd
  split
  next t e w c h => exact absurd h (he t e w c)
  next => rfl

theorem takeMaxOnCut_span (he : (s.station n).engine = .on ⟨t, .span off mx, c⟩) :
    takeMaxOnCut n s = if c = mx then pulseEnd n t .firedCut s else s := by
  simp [takeMaxOnCut, he]

theorem takeMaxOnCut_other (he : ∀ t off mx c, (s.station n).engine ≠ .on ⟨t, .span off mx, c⟩) : takeMaxOnCut n s = s := by
  unfold takeMaxOnCut
  split
  next t off mx c h => exact absurd h (he t off mx c)
  next => rfl

theorem takeOffPosition_span (he : (s.station n).engine = .on ⟨t, .span off mx, c⟩) :
    takeOffPosition n s = if off = s.p then pulseEnd n t (if c = mx then .firedCut else .fired) s else s := by
  simp [takeOffPosition, he]

theorem takeOffPosition_other (he : ∀ t off mx c, (s.station n).engine ≠ .on ⟨t, .span off mx, c⟩) :
    takeOffPosition n s = s := by
  unfold takeOffPosition
  split
  next t off mx c h => exact absurd h (he t off mx c)
  next => rfl

theorem takeRecoveryEnd_zero (he : (s.station n).engine = .recovery 0) :
    takeRecoveryEnd n s = s.setStation n { s.station n with engine := .offReady } := by
  simp [takeRecoveryEnd, he]

theorem takeRecoveryEnd_other (he : (s.station n).engine ≠ .recovery 0) : takeRecoveryEnd n s = s := by
  unfold takeRecoveryEnd
  split
  next c h => exact if_neg fun hc : c = 0 => he (hc ▸ h)
  next => rfl

end

end

/-- Settles O51. -/
theorem arrivalFiresOrCollides : Obligations.ArrivalFiresOrCollides := by
  rintro s n x hreset hs rfl
  rw [exec_arrival hreset]
  refine ⟨fun t rest r o hl hr ht ho => ?_, fun hl => ?_⟩
  · have ha := hs.arriving_eq hl hr ht ho
    refine ⟨fun hp hoff => ?_, fun hp hbusy => ?_, fun hp => ?_⟩
    · rw [takeArrival_fires (ha.trans (if_pos hp)) hoff, startPulse, hl]
      rfl
    · rw [takeArrival_collides (ha.trans (if_pos hp)) hbusy, collide, hl]
      rfl
    · rw [takeArrival_absent (ha.trans (if_neg hp))]
  · rw [takeArrival_absent (arriving_nil hl)]

/-- Settles O52. -/
theorem timePulseAndRecoveryEndAtTheirCounts : Obligations.TimePulseAndRecoveryEndAtTheirCounts := by
  constructor
  · rintro s n x rfl
    refine ⟨takeLateTick_none, fun t e c d hl he hd => ?_, fun c => takeLateTick_recovery, takeLateTick_atRest⟩
    obtain rfl : d = satInc c := hd.trans (satInc_eq c).symm
    exact takeLateTick_on hl he
  · rintro s a n x hreset rfl rfl
    rw [exec_timePulseEnd hreset, exec_recoveryEnd hreset]
    refine ⟨fun t e w c he => ⟨fun hc => ?_, fun hc => ?_⟩, fun he => ?_, fun he => ?_, fun he => ?_⟩
    · rw [takeTimePulseEnd_time he, if_pos hc, pulseEnd_takeLateTick]
      rfl
    · rw [takeTimePulseEnd_time he, if_neg hc]
    · rw [takeTimePulseEnd_other he]
    · rw [takeRecoveryEnd_zero he, State.setStation]
    · rw [takeRecoveryEnd_other he]

/-- Settles O53. -/
theorem spanPulseEndsAtItsOffPositionOrMaxOn : Obligations.SpanPulseEndsAtItsOffPositionOrMaxOn := by
  constructor
  · rintro s n x hreset rfl
    rw [exec_offPositionReached hreset]
    refine ⟨fun t off mx c he => ⟨fun hoff => ?_, fun hoff => ?_⟩, fun he => ?_⟩
    · rw [takeOffPosition_span he, if_pos hoff]
      rfl
    · rw [takeOffPosition_span he, if_neg hoff]
    · rw [takeOffPosition_other he]
  · rintro s a n x hreset rfl rfl
    rw [exec_maxOnCut hreset]
    refine ⟨fun t off mx c he => ⟨fun hc => ?_, fun hc => ?_⟩, fun he => ?_⟩
    · rw [takeMaxOnCut_span he, if_pos hc, pulseEnd_takeLateTick]
      rfl
    · rw [takeMaxOnCut_span he, if_neg hc]
    · rw [takeMaxOnCut_other he]

end Sys2Proof.Machine
end

section
/-! The outcomes that wait for the host, single event by single event: a retirement puts its outcome behind them, and whatever
changes a live record or an empty slot leaves them as they are (R139, R140). -/

namespace Sys2Proof.Machine

section
variable {P : ItemRecord → Prop} {s t : State} {r : ItemRecord} {n : StationNo} {u : Byte}

/-! ### What leaves the waiting outcomes -/

/-- The outcomes of the records that hold the tags `us`, in their order. -/
def State.outcomesOf (s : State) (us : List Byte) : List OutcomeRecord :=
  us.filterMap (fun v => (s.heldRecord v).map (fun r => outcomeOf r (r.outcome.getD .halted)))

theorem waiting_eq (s : State) : s.waiting = s.queue ++ s.outcomesOf s.backlog := rfl

theorem outcomesOf_congr {us : List Byte} (h : ∀ v ∈ us, t.heldRecord v = s.heldRecord v) :
    t.outcomesOf us = s.outcomesOf us :=
  List.filterMap_congr fun v hv => by rw [h v hv]

theorem outcomesOf_cons (h : s.heldRecord u = some r) (us : List Byte) :
    s.outcomesOf (u :: us) = outcomeOf r (r.outcome.getD .halted) :: s.outcomesOf us := by
  simp [State.outcomesOf, h]

/-- What waits is told by the queue, the backlog and the records that the backlog names. -/
theorem waiting_congr (hq : t.queue = s.queue) (hb : t.backlog = s.backlog)
    (hr : ∀ v ∈ s.backlog, t.heldRecord v = s.heldRecord v) : t.waiting = s.waiting := by
  rw [waiting_eq, waiting_eq, hq, hb, outcomesOf_congr hr]

theorem waiting_of_items (hq : t.queue = s.queue) (hb : t.backlog = s.backlog) (hi : t.items = s.items) :
    t.waiting = s.waiting :=
  waiting_congr hq hb fun v _ => by rw [State.heldRecord, State.heldRecord, hi]

theorem Unmoved.waiting (h : Unmoved t s) : t.waiting = s.waiting := waiting_of_items h.queue h.backlog h.items

theorem grows_of_eq (h : t.waiting = s.waiting) : s.waiting <+: t.waiting := by rw [h]

@[simp] theorem drainCheck_waiting (s : State) : (drainCheck s).waiting = s.waiting := (drainCheck_unmoved s).waiting

/-- The record of a backlog reference is not live, so it has another tag than a live record. -/
theorem State.Filed.ne_of_mem_backlog (h : s.Filed P) (hr : r ∈ s.items) (hl : r.state ≠ .retired) {v : Byte}
    (hv : v ∈ s.backlog) : v ≠ r.tag := fun e => h.not_mem_backlog hr hl (e ▸ hv)

theorem State.Filed.modifyRecord_waiting (h : s.Filed P) (hr : r ∈ s.items) (hl : r.state ≠ .retired)
    {f : ItemRecord → ItemRecord} (hf : ∀ x, (f x).tag = x.tag) : (s.modifyRecord r.tag f).waiting = s.waiting :=
  waiting_congr rfl rfl fun _ hv => heldRecord_modifyRecord_ne s (h.ne_of_mem_backlog hr hl hv) hf

/-- A slot that becomes free is found by no other tag. -/
theorem heldRecord_freeSlot_ne (s : State) {v : Byte} (hv : v ≠ u) : (s.freeSlot u).heldRecord v = s.heldRecord v := by
  unfold State.heldRecord State.freeSlot
  rw [List.find?_filter]
  refine congrArg (List.find? · s.items) (funext fun x => ?_)
  by_cases e : x.tag = v
  · simp [e, hv]
  · simp [e]

theorem State.Filed.freeSlot_waiting (h : s.Filed P) (hr : r ∈ s.items) (hl : r.state ≠ .retired) :
    (s.freeSlot r.tag).waiting = s.waiting :=
  waiting_congr rfl rfl fun _ hv => heldRecord_freeSlot_ne s (h.ne_of_mem_backlog hr hl hv)

/-- The new record stands behind those that the backlog names (R53). -/
theorem State.Filed.allocate_waiting (h : s.Filed P) (l : LaneNo) : (allocate l s).waiting = s.waiting := by
  refine waiting_congr rfl rfl fun v hv => ?_
  obtain ⟨x, hx⟩ := h.heldRecord_backlog hv
  have hfound : s.items.find? (fun r => r.tag == v) = some x := hx
  rw [hx]
  simp [State.heldRecord, allocate, hfound]

/-! ### Retirements (R69, R140) -/

theorem State.Filed.mono_true (h : s.Filed P) : s.Filed fun _ => True := ⟨h.table, h.backlog, fun _ _ => trivial⟩

theorem State.Filed.retireAndCheck_filed (h : s.Filed P) (u : Byte) (c : OutcomeCode) :
    (retireAndCheck u c s).Filed fun _ => True := by
  suffices hret : (retire u c s).Filed fun _ => True from
    ⟨by simpa [retireAndCheck, State.tableLaw] using hret.table, by simpa [retireAndCheck, State.backlogLaw] using hret.backlog,
      fun _ _ => trivial⟩
  cases hf : s.liveRecord u with
  | none => rw [retire_absent hf]; exact h.mono_true
  | some r =>
    obtain ⟨hr, rfl, hl⟩ := liveRecord_spec hf
    exact h.change (h.oneRecord_retire hr (ItemRecord.isLive_iff.1 hl) c) fun _ _ => trivial

/-- A retirement puts its outcome last, and without a live record there is none (R70). -/
theorem State.Filed.retire_grows (h : s.Filed P) (u : Byte) (c : OutcomeCode) : s.waiting <+: (retire u c s).waiting := by
  cases hf : s.liveRecord u with
  | none => rw [retire_absent hf]
  | some r =>
    obtain ⟨hr, rfl, hl⟩ := liveRecord_spec hf
    exact ⟨_, (h.retire_waiting hr (ItemRecord.isLive_iff.1 hl) c).symm⟩

theorem State.Filed.retireAndCheck_grows (h : s.Filed P) (u : Byte) (c : OutcomeCode) :
    s.waiting <+: (retireAndCheck u c s).waiting := by
  rw [retireAndCheck, drainCheck_waiting]
  exact h.retire_grows u c

theorem State.Filed.retireAll_grows (h : s.Filed ItemRecord.presence) (c : OutcomeCode) (us : List Byte) :
    s.waiting <+: (us.foldl (fun a u => retire u c a) s).waiting := by
  induction us generalizing s with
  | nil => exact List.prefix_rfl
  | cons u us ih => exact (h.retire_grows u c).trans (ih (h.retire_keeps u c))

/-- A halt entry retires every live record, one after the other (R22). -/
theorem State.Filed.haltEntry_grows (h : s.Filed ItemRecord.presence) (cause : HaltCause) :
    s.waiting <+: (haltEntry cause s).waiting :=
  State.Filed.retireAll_grows (s := { s with run := .halt, haltCause := cause }) ⟨h.table, h.backlog, h.records⟩ .halted _

/-! ### Stations and engines (chapters 6 and 7) -/

/-- The stations are no part of the laws of the table and the backlog. -/
theorem State.Filed.setStation (h : s.Filed P) (x : Station) : (s.setStation n x).Filed P := ⟨h.table, h.backlog, h.records⟩

theorem State.Filed.pulseEnd_grows (h : s.Filed P) (n : StationNo) (u : Byte) (c : OutcomeCode) :
    s.waiting <+: (pulseEnd n u c s).waiting :=
  (h.setStation _).retireAndCheck_grows u c

/-- A head that arrives is COMMITTED; it is FIRING after it, or retires COLLIDED (R121, R122). -/
theorem State.Filed.takeArrival_grows (h : s.Filed P) (n : StationNo) : s.waiting <+: (takeArrival n s).waiting := by
  obtain e | ⟨u, o, ha, -, e⟩ | ⟨u, o, -, e⟩ := takeArrival_cases n s <;> rw [e]
  · obtain ⟨r, hr, rfl, hrs⟩ := arriving_spec ha
    exact grows_of_eq ((h.setStation _).modifyRecord_waiting hr (by simp [hrs]) (by simp))
  · exact (h.setStation _).retireAndCheck_grows u .collided

/-- An engine counts in the record that is FIRING at its station (R120, R123). -/
theorem State.Coupled.engineTick_waiting (h : s.Coupled P) (n : StationNo) : (engineTick n s).waiting = s.waiting := by
  unfold engineTick
  simp only
  split
  next q hq =>
    obtain ⟨r, hr, hrt, hrs⟩ := h.pulses.1 n q hq
    rw [← hrt]
    exact (h.setStation _).modifyRecord_waiting hr (by simp [hrs]) (by simp)
  all_goals rfl

/-! ### Placement and the deadline (R60, R81, R114) -/

/-- The bumps retire their records one after the other, and leave a record of another tag in the table (R114 step 1). -/
theorem State.Filed.bumpAll_grows {tags : List Byte} (h : s.Filed P) :
    (bumpAll tags s).Filed (fun _ => True) ∧ s.waiting <+: (bumpAll tags s).waiting ∧
      ∀ x ∈ s.items, x.tag ∉ tags → x ∈ (bumpAll tags s).items := by
  induction tags generalizing s P with
  | nil => exact ⟨h.mono_true, List.prefix_rfl, fun _ hx _ => hx⟩
  | cons u us ih =>
    obtain ⟨hf, hw, hi⟩ := ih (h.retireAndCheck_filed u .bumped)
    refine ⟨hf, (h.retireAndCheck_grows u .bumped).trans hw, fun x hx hm => ?_⟩
    obtain ⟨hu, hus⟩ : x.tag ≠ u ∧ x.tag ∉ us := by simpa using hm
    exact hi x ((h.mem_retireAndCheck hu).2 hx) hus

theorem State.Filed.commit_waiting (h : s.Filed P) (hr : r ∈ s.items) (hl : r.state ≠ .retired) (v : Verdict) (o : Order) :
    (commit r.tag v o s).waiting = s.waiting := by
  have hdrop : (s.dropAnnounce r.tag).Filed P := ⟨h.table, h.backlog, h.records⟩
  exact (hdrop.setStation _).modifyRecord_waiting hr hl (by simp)

/-- The record that a placement commits is PENDING, so it is not among the bumped ones (R112, R114). -/
theorem State.Filed.place_grows (h : s.Filed P) (hr : r ∈ s.items) (hs : r.state = .pending) {v : Verdict} {on : Pos}
    {tags : List Byte} (ha : s.arbitrate r.tag v on = some tags) (o : Order) :
    s.waiting <+: (place r.tag v o tags s).waiting := by
  have hrn : r.tag ∉ tags := fun hm => by simp [arbitrate_bumpable h.table ha hr hm] at hs
  obtain ⟨hf, hw, hi⟩ := h.bumpAll_grows (tags := tags)
  rw [place, hf.commit_waiting (hi r hr hrn) (by simp [hs])]
  exact hw

/-- A PENDING record takes the verdict of its default, and stays PENDING (R60 step 1). -/
theorem State.Filed.takeVerdict_waiting (h : s.Filed P) (hr : r ∈ s.items) (hs : r.state = .pending) (v : Verdict) :
    (s.modifyRecord r.tag fun x => { x with verdict := some v }).Filed (fun _ => True) ∧
      { r with verdict := some v } ∈ (s.modifyRecord r.tag fun x => { x with verdict := some v }).items ∧
        (s.modifyRecord r.tag fun x => { x with verdict := some v }).waiting = s.waiting := by
  have hl : r.state ≠ .retired := by simp [hs]
  refine ⟨h.change (h.oneRecord_modifyRecord hr hl (by exact fun _ => rfl) (by simp [hs])) fun _ _ => trivial,
    mem_modifyRecord.2 (.inr ⟨r, hr, rfl, rfl⟩), h.modifyRecord_waiting hr hl (by exact fun _ => rfl)⟩

theorem State.Filed.defaultEject_grows (h : s.Filed P) (hr : r ∈ s.items) (hs : r.state = .pending) :
    s.waiting <+: (defaultEject r s).waiting := by
  obtain ⟨hf, hown, hw⟩ := h.takeVerdict_waiting hr hs (defaultVerdict r.snapshot)
  rw [defaultEject_eq rfl rfl rfl, ← hw]
  split
  · exact hf.retireAndCheck_grows r.tag .unroutable
  · split
    · exact hf.retireAndCheck_grows r.tag .missedWindow
    · split
      · exact hf.retireAndCheck_grows r.tag .conflict
      next ha => exact hf.place_grows hown hs ha _

theorem State.Filed.takeDeadline_grows (h : s.Filed P) (u : Byte) : s.waiting <+: (takeDeadline u s).waiting := by
  unfold takeDeadline
  split
  · exact List.prefix_rfl
  next r hf =>
    obtain ⟨hr, rfl, -⟩ := liveRecord_spec hf
    split
    next hs =>
      split
      · exact h.retireAndCheck_grows r.tag .defaultPassed
      · exact h.defaultEject_grows hr hs.1
    next => exact List.prefix_rfl

/-! ### Lanes (chapter 3) -/

theorem State.Filed.takeJam_grows (h : s.Filed P) (l : LaneNo) : s.waiting <+: (takeJam l s).waiting := by
  cases hj : s.jamDue l with
  | none => rw [takeJam_notDue hj]
  | some u =>
    rw [takeJam_due hj, drainCheck_waiting]
    exact h.retire_grows u .overlength

theorem State.Filed.takeLead_waiting (h : s.Filed P) (l : LaneNo) : (takeLead l s).waiting = s.waiting := by
  unfold takeLead
  simp only
  split
  · split
    · exact h.allocate_waiting l
    · rfl
  · rfl

/-- A measurement ends in a discarded record or in a PENDING one (R40, R41). -/
theorem State.Filed.endMeasurement_waiting (h : s.Filed P) (l : LaneNo) (u : Byte) :
    (endMeasurement l u s).waiting = s.waiting := by
  unfold endMeasurement
  simp only
  split
  · rfl
  next r hf =>
    obtain ⟨hr, rfl, hl⟩ := liveRecord_spec hf
    have hl' := ItemRecord.isLive_iff.1 hl
    split
    · rfl
    · split
      · rw [drainCheck_waiting]
        exact h.freeSlot_waiting hr hl'
      · exact h.modifyRecord_waiting hr hl' (by simp)

end
end Sys2Proof.Machine
end

section
/-! One walk for the order of the waiting outcomes: every row but NEXT_OUTCOME, CLEAR_LINE and reset leaves them, with new ones
behind them (R139). -/

namespace Sys2Proof.Machine

/-- The coupled laws, and the outcomes `w` wait before all others. -/
abbrev State.Awaits (w : List OutcomeRecord) (s : State) : Prop := s.Holds fun t => w <+: t.waiting

section
variable {w : List OutcomeRecord} {s t : State}

theorem State.Coupled.awaits (h : s.Coupled ItemRecord.presence) : s.Awaits s.waiting := ⟨h, List.prefix_rfl⟩

/-- An event that keeps the coupled laws and puts new outcomes behind those that wait. -/
theorem State.Awaits.grow (h : s.Awaits w) (ht : t.Coupled ItemRecord.presence) (hg : s.waiting <+: t.waiting) :
    t.Awaits w := ⟨ht, h.law.trans hg⟩

/-- An event that leaves what waits. -/
theorem State.Awaits.keep (h : s.Awaits w) (ht : t.Coupled ItemRecord.presence) (hw : t.waiting = s.waiting) :
    t.Awaits w := h.grow ht (grows_of_eq hw)

/-- An event that writes none of the fields that the laws read. -/
theorem State.Awaits.frame (h : s.Awaits w) (hi : t.items = s.items) (hq : t.queue = s.queue) (hb : t.backlog = s.backlog)
    (hp : t.p = s.p) (hrun : t.run = s.run) (hl : t.lanes = s.lanes) (hst : t.stations = s.stations)
    (ha : t.advanceDue = s.advanceDue) : t.Awaits w :=
  h.keep (h.toCoupled.frame hi hb hp hrun hl hst fun _ hd => ha ▸ hd) (waiting_of_items hq hb hi)

theorem State.Awaits.forStations {f : StationNo → State → State} (hf : ∀ n a, a.Awaits w → (f n a).Awaits w)
    (h : s.Awaits w) : (forStations f s).Awaits w := State.Holds.forStations hf h

theorem State.Awaits.forLanes {f : LaneNo → State → State} (hf : ∀ l a, a.Awaits w → (f l a).Awaits w)
    (h : s.Awaits w) : (forLanes f s).Awaits w := State.Holds.forLanes hf h

/-! ### Stations and engines -/

theorem State.Awaits.takeGuardMark (h : s.Awaits w) (n : StationNo) : (takeGuardMark n s).Awaits w :=
  h.keep (h.takeGuardMark_keeps n) (takeGuardMark_unmoved n s).waiting

theorem State.Awaits.takeTimePulseEnd (h : s.Awaits w) (n : StationNo) : (takeTimePulseEnd n s).Awaits w := by
  refine h.grow (h.takeTimePulseEnd_keeps n) ?_
  obtain e | ⟨q, c, -, e⟩ := takeTimePulseEnd_cases n s <;> rw [e]
  exact h.toFiled.pulseEnd_grows n q.tag c

theorem State.Awaits.takeMaxOnCut (h : s.Awaits w) (n : StationNo) : (takeMaxOnCut n s).Awaits w := by
  refine h.grow (h.takeMaxOnCut_keeps n) ?_
  obtain e | ⟨q, -, e⟩ := takeMaxOnCut_cases n s <;> rw [e]
  exact h.toFiled.pulseEnd_grows n q.tag .firedCut

theorem State.Awaits.takeOffPosition (h : s.Awaits w) (n : StationNo) : (takeOffPosition n s).Awaits w := by
  refine h.grow (h.takeOffPosition_keeps n) ?_
  obtain e | ⟨q, c, -, e⟩ := takeOffPosition_cases n s <;> rw [e]
  exact h.toFiled.pulseEnd_grows n q.tag c

theorem State.Awaits.takeRecoveryEnd (h : s.Awaits w) (n : StationNo) : (takeRecoveryEnd n s).Awaits w :=
  h.keep (h.takeRecoveryEnd_keeps n) (waiting_of_items (by simp) (by simp) (by simp))

theorem State.Awaits.engineTick (h : s.Awaits w) (n : StationNo) : (engineTick n s).Awaits w :=
  h.keep (h.engineTick_keeps n) (h.toCoupled.engineTick_waiting n)

theorem State.Awaits.setLate (h : s.Awaits w) (n : StationNo) (late : Bool) :
    (s.setStation n { s.station n with tickLate := late }).Awaits w :=
  h.keep (h.setStation_keeps n _ fun q hq => ⟨q, hq, rfl⟩) rfl

theorem State.Awaits.takeLateTick (h : s.Awaits w) (n : StationNo) : (takeLateTick n s).Awaits w := by
  unfold Machine.takeLateTick
  split
  · exact (h.setLate n false).engineTick n
  · exact h

theorem State.Awaits.takeArrival (h : s.Awaits w) (n : StationNo) : (takeArrival n s).Awaits w :=
  h.grow (h.takeArrival_keeps n) (h.toFiled.takeArrival_grows n)

/-! ### Records and lanes -/

theorem State.Awaits.takeDeadline (h : s.Awaits w) (u : Byte) : (takeDeadline u s).Awaits w :=
  h.grow (h.takeDeadline_keeps u) (h.toFiled.takeDeadline_grows u)

theorem State.Awaits.takeJam (h : s.Awaits w) (l : LaneNo) : (takeJam l s).Awaits w :=
  h.grow (h.takeJam_keeps l) (h.toFiled.takeJam_grows l)

theorem State.Awaits.takeLead (h : s.Awaits w) (l : LaneNo) : (takeLead l s).Awaits w :=
  h.keep (h.takeLead_keeps l) (h.toFiled.takeLead_waiting l)

theorem State.Awaits.takeTrailing (h : s.Awaits w) (l : LaneNo) : (takeTrailing l s).Awaits w := by
  have hj := h.takeJam l
  refine hj.keep (h.takeTrailing_keeps l) ?_
  unfold Machine.takeTrailing takeTrailingNow
  simp only
  split
  case h_6 =>
    split
    next m _ => exact hj.toFiled.endMeasurement_waiting l m.tag
    next => rfl
  all_goals rfl

theorem State.Awaits.takeSense (h : s.Awaits w) (l : LaneNo) (x : Sense) : (takeSense l x s).Awaits w := by
  cases x with
  | lead => exact h.takeLead l
  | trailing => exact h.takeTrailing l

theorem State.Awaits.setEdge (h : s.Awaits w) (l : LaneNo) (filter : Filter) (edge : Option EdgeDir) :
    (s.setLane l { s.lane l with filter, edge }).Awaits w :=
  h.keep (h.setLane_keeps l _ rfl .rfl fun _ => id) rfl

theorem State.Awaits.flushLane (h : s.Awaits w) (l : LaneNo) : (flushLane l s).Awaits w := by
  unfold Machine.flushLane
  split
  · exact h
  · exact (h.setEdge l (s.lane l).filter none).takeSense l _

/-! ### Settling, the advance and XSTOP (log 2) -/

theorem State.Awaits.settleReached (h : s.Awaits w) : (settleReached s).Awaits w := by
  refine foldl_holds (fun a u (ha : a.Awaits w) => ha.takeDeadline u) _ ?_
  exact (((h.forStations fun n _ ha => ha.takeGuardMark n).forStations
    fun n _ ha => ha.takeOffPosition n).forStations fun n _ ha => ha.takeArrival n).forLanes
      fun l _ ha => ha.takeJam l

theorem State.Awaits.settleEngines (h : s.Awaits w) : (settleEngines s).Awaits w :=
  ((h.forStations fun n _ ha => ha.takeTimePulseEnd n).forStations
    fun n _ ha => ha.takeMaxOnCut n).forStations fun n _ ha => ha.takeRecoveryEnd n

theorem State.Awaits.settleDue (h : s.Awaits w) : (settleDue s).Awaits w := h.settleEngines.settleReached

theorem State.Awaits.advance (h : s.Awaits w) : (advance s).Awaits w := by
  have hcount : ∀ a : State, ({ a with p := a.p + 1 } : State).waiting = a.waiting := fun _ => rfl
  refine h.settleReached.keep h.advance_keeps ?_
  cases hr : (Machine.settleReached s).running with
  | true => rw [advance_running rfl hr]; exact hcount _
  | false => rw [advance_resting rfl hr]

theorem State.Awaits.dropAdvance (h : s.Awaits w) : ({ s with advanceDue := false } : State).Awaits w :=
  h.keep h.dropAdvance_keeps rfl

theorem State.Awaits.takeDueAdvance (h : s.Awaits w) : (takeDueAdvance s).Awaits w := by
  unfold Machine.takeDueAdvance
  split
  · simp only
    split
    · exact h.dropAdvance.advance
    · exact h.dropAdvance
  · exact h

theorem State.Awaits.haltEntry (h : s.Awaits w) (cause : HaltCause) : (haltEntry cause s).Awaits w :=
  h.grow (h.haltEntry_coupled cause) (h.toFiled.haltEntry_grows cause)

theorem State.Awaits.takeXstop (h : s.Awaits w) (d : EdgeDir) : (takeXstop d s).Awaits w := by
  cases d with
  | rising => exact h
  | falling =>
    simp only [Machine.takeXstop]
    split
    · split
      · exact h.settleDue.haltEntry .xstop
      · exact h.settleDue
    · exact h

theorem State.Awaits.setXstop (h : s.Awaits w) (filter : Filter) (edge : Option EdgeDir) :
    ({ s with xstopFilter := filter, xstopEdge := edge } : State).Awaits w := h.frame rfl rfl rfl rfl rfl rfl rfl rfl

theorem State.Awaits.flushXstop (h : s.Awaits w) : (flushXstop s).Awaits w := by
  unfold Machine.flushXstop
  split
  · exact h
  · exact (h.setXstop s.xstopFilter none).takeXstop _

theorem State.Awaits.flushLanes (h : s.Awaits w) : (Machine.forLanes Machine.flushLane s).Awaits w :=
  h.forLanes fun l _ ha => ha.flushLane l

theorem State.Awaits.finishTick (h : s.Awaits w) : (finishTick s).Awaits w :=
  h.settleEngines.takeDueAdvance.flushLanes.flushXstop

theorem State.Awaits.settleAll (h : s.Awaits w) : (settleAll s).Awaits w :=
  (h.settleDue.takeDueAdvance.settleReached.forStations fun n _ ha => ha.takeLateTick n).settleEngines.flushLanes.flushXstop

/-! ### The tick and the edges -/

theorem State.Awaits.tickNow (h : s.Awaits w) (pins : PinSamples) (late : BitVec 8) : (tickNow pins late s).Awaits w := by
  have hdiv : ({ s with divCount := s.timebase.divider } : State).Awaits w := h.frame rfl rfl rfl rfl rfl rfl rfl rfl
  have henc := hdiv.keep (hdiv.sampleEncoder_keeps pins.enc) rfl
  have hlanes : (sampleLanes pins.sns (sampleXstop pins.xstop
      (sampleEncoder pins.enc { s with divCount := s.timebase.divider }))).Awaits w :=
    (henc.setXstop _ _).forLanes fun l _ ha => ha.setEdge l _ _
  have hrate := hlanes.keep hlanes.countRate_keeps (by unfold countRate; (repeat' split) <;> rfl)
  unfold Machine.tickNow tickEngines
  refine hrate.forStations fun n a ha => ?_
  simp only
  split
  · exact ha.setLate n true
  · exact ha.engineTick n

theorem State.Awaits.edgeStart (h : s.Awaits w) (waits : Bool) : (edgeStart waits s).Awaits w := by
  unfold Machine.edgeStart
  split
  · exact h
  · exact h.finishTick

theorem State.Awaits.takeEncoder (h : s.Awaits w) (d : EdgeDir) : (takeEncoder d s).Awaits w := by
  have h' : ({ s with encFilter := filterAt s.encFilter (edgeLevel d) } : State).Awaits w :=
    h.frame rfl rfl rfl rfl rfl rfl rfl rfl
  unfold Machine.takeEncoder
  simp only
  split
  · exact h'.advance
  · exact h'

theorem State.Awaits.laneEdge (h : s.Awaits w) (l : LaneNo) (x : Sense) : (laneEdge l x s).Awaits w :=
  ((h.edgeStart _).setEdge l _ none).takeSense l x

theorem State.Awaits.xstopChange (h : s.Awaits w) (d : EdgeDir) : (xstopChange d s).Awaits w :=
  ((h.edgeStart _).setXstop _ none).takeXstop d

theorem State.Awaits.takeRateExpiry (h : s.Awaits w) : (takeRateExpiry s).Awaits w := by
  unfold Machine.takeRateExpiry
  split
  · exact h.takeDueAdvance
  · exact h

/-! ### The commands -/

/-- HALT retires what is live after what is due (R20, R22). -/
theorem State.Awaits.doHalt (h : s.Awaits w) : (doHalt s).2.Awaits w := by
  obtain ⟨a, ha, hd⟩ : ∃ a, a = Machine.settleDue s ∧ a.Awaits w := ⟨_, rfl, h.settleDue⟩
  cases hr : s.running with
  | false => rw [doHalt_refused hr]; exact h
  | true =>
    cases hra : a.running with
    | false => rw [doHalt_ended hr ha hra]; exact hd
    | true => rw [doHalt_taken hr ha hra]; exact hd.haltEntry .command

theorem State.Filed.doVerdict_grows {P : ItemRecord → Prop} (h : s.Filed P) : s.waiting <+: (doVerdict s).2.waiting := by
  unfold doVerdict
  split
  · exact List.prefix_rfl
  next r hk =>
    split
    next => exact List.prefix_rfl
    next hs =>
      unfold verdictPending
      split
      · exact List.prefix_rfl
      · simp only
        split
        · exact List.prefix_rfl
        · split
          · exact List.prefix_rfl
          · split
            · exact List.prefix_rfl
            · split
              · exact List.prefix_rfl
              next ha => exact h.place_grows (keyCheck_spec hk) hs ha _
    all_goals exact List.prefix_rfl

theorem State.Filed.doPass_grows {P : ItemRecord → Prop} (h : s.Filed P) : s.waiting <+: (doPass s).2.waiting := by
  unfold doPass
  split
  · exact List.prefix_rfl
  · split
    next => exact List.prefix_rfl
    next => exact h.retireAndCheck_grows _ .passed
    all_goals exact List.prefix_rfl

theorem State.Filed.doAbort_grows {P : ItemRecord → Prop} (h : s.Filed P) : s.waiting <+: (doAbort s).2.waiting := by
  unfold doAbort
  split
  · exact List.prefix_rfl
  · split
    next => exact List.prefix_rfl
    next => exact h.retireAndCheck_grows _ .aborted
    next => exact h.retireAndCheck_grows _ .aborted
    all_goals exact List.prefix_rfl

/-- Starting, draining and resuming, and the settings, end no record. -/
theorem settings_waiting (s : State) :
    (doStart s).2.waiting = s.waiting ∧ (doDrain s).2.waiting = s.waiting ∧ (doResume s).2.waiting = s.waiting ∧
      (doSetTimebase s).2.waiting = s.waiting ∧ (doSetPosition s).2.waiting = s.waiting ∧ (doSetLane s).2.waiting = s.waiting ∧
      (doSetStation s).2.waiting = s.waiting ∧ (doSetProfile s).2.waiting = s.waiting ∧
      (doSetFreeThreshold s).2.waiting = s.waiting := by
  refine ⟨?_, ?_, ?_, ?_, ?_, ?_, ?_, ?_, ?_⟩
  · unfold doStart; (repeat' split) <;> rfl
  · by_cases hr : s.run = .run
    · rw [doDrain_taken hr]; exact drainCheck_waiting _
    · rw [doDrain_refused hr]
  · unfold doResume; (repeat' split) <;> rfl
  · unfold doSetTimebase; (repeat' split) <;> rfl
  · unfold doSetPosition; split <;> rfl
  · unfold doSetLane; split <;> rfl
  · unfold doSetStation; simp only; (repeat' split) <;> rfl
  · unfold doSetProfile; split <;> rfl
  · unfold doSetFreeThreshold; split <;> rfl

theorem reads_waiting (s : State) :
    (doReadLane s).2.waiting = s.waiting ∧ (doReadStation s).2.waiting = s.waiting ∧ (doReadProfile s).2.waiting = s.waiting ∧
      (doReadItem s).2.waiting = s.waiting ∧ (doReadTimebase s).2.waiting = s.waiting ∧
      (doNextDetection s).2.waiting = s.waiting := by
  refine ⟨?_, ?_, ?_, ?_, rfl, ?_⟩
  · unfold doReadLane; split <;> rfl
  · unfold doReadStation; split <;> rfl
  · unfold doReadProfile; split <;> rfl
  · unfold doReadItem; split <;> rfl
  · unfold doNextDetection; (repeat' split) <;> rfl

/-- Of the commands NEXT_OUTCOME and CLEAR_LINE alone take outcomes away (R26, R142). -/
theorem State.Awaits.commandBody (h : s.Awaits w) {c : HostCommand} (hn : c ≠ .nextOutcome) (hc : c ≠ .clearLine) :
    (commandBody c s).2.Awaits w := by
  obtain ⟨hstart, hdrain, hresume, htimebase, hposition, hlane, hstation, hprofile, hthreshold⟩ := settings_waiting s
  obtain ⟨hreadLane, hreadStation, hreadProfile, hreadItem, hreadTimebase, hdetection⟩ := reads_waiting s
  have hcoupled := h.commandBody_keeps c
  cases c with
  | nextOutcome => exact absurd rfl hn
  | clearLine => exact absurd rfl hc
  | halt => exact h.doHalt
  | verdict => exact h.grow hcoupled h.toFiled.doVerdict_grows
  | pass => exact h.grow hcoupled h.toFiled.doPass_grows
  | abort => exact h.grow hcoupled h.toFiled.doAbort_grows
  | start => exact h.keep hcoupled hstart
  | drain => exact h.keep hcoupled hdrain
  | resume => exact h.keep hcoupled hresume
  | setTimebase => exact h.keep hcoupled htimebase
  | setPosition => exact h.keep hcoupled hposition
  | setLane => exact h.keep hcoupled hlane
  | setStation => exact h.keep hcoupled hstation
  | setProfile => exact h.keep hcoupled hprofile
  | setFreeThreshold => exact h.keep hcoupled hthreshold
  | readLane => exact h.keep hcoupled hreadLane
  | readStation => exact h.keep hcoupled hreadStation
  | readProfile => exact h.keep hcoupled hreadProfile
  | readItem => exact h.keep hcoupled hreadItem
  | readTimebase => exact h.keep hcoupled hreadTimebase
  | nextDetection => exact h.keep hcoupled hdetection

/-! ### The rows -/

theorem State.Awaits.runCommand (h : s.Awaits w) {c : HostCommand} (hn : c ≠ .nextOutcome) (hc : c ≠ .clearLine) :
    (runCommand c s).Awaits w := by
  cases hr : s.inReset with
  | true => rw [runCommand_held hr]; exact h
  | false => rw [runCommand_taken hr]; exact (h.finishTick.commandBody hn hc).frame rfl rfl rfl rfl rfl rfl rfl rfl

theorem State.Awaits.access {f : State → State} (h : s.Awaits w) (hf : ∀ a, a.Awaits w → (f a).Awaits w) :
    (access f s).Awaits w := h.event fun _ => hf _ h.finishTick

/-- By the law of R139 the row of its own finds nothing to promote. -/
theorem State.Sound.promote_eq (h : s.Sound) : promote s = s := h.deliveryLaw.promote_eq

/-- Every row but NEXT_OUTCOME, CLEAR_LINE, BAD_COMMAND, REGISTER_WRITE and reset leaves what waits at the front. -/
theorem State.Awaits.exec (h : s.Awaits w) (hs : s.Sound) {c : Instr} (he : exec c s = .next t) (hnext : c ≠ .nextOutcome)
    (hclear : c ≠ .clearLine) (hbad : ∀ b, c ≠ .badCommand b) (hwrite : ∀ a b y, c ≠ .registerWrite a b y)
    (hreset : ∀ n, c ≠ .reset n) (hrelease : c ≠ .resetRelease) : t.Awaits w := by
  cases c <;> obtain rfl := Host.Outcome.next.inj he
  case nextOutcome => exact absurd rfl hnext
  case clearLine => exact absurd rfl hclear
  case badCommand b => exact absurd rfl (hbad b)
  case registerWrite a b y => exact absurd rfl (hwrite a b y)
  case reset n => exact absurd rfl (hreset n)
  case resetRelease => exact absurd rfl hrelease
  case paramWrite => exact h.event fun _ => h.frame rfl rfl rfl rfl rfl rfl rfl rfl
  case irqEnableWrite => exact h.event fun _ => h.frame rfl rfl rfl rfl rfl rfl rfl rfl
  case irqFlagsWrite => exact h.access fun _ ha => ha.frame rfl rfl rfl rfl rfl rfl rfl rfl
  case pos0Read => exact h.access fun _ ha => ha.frame rfl rfl rfl rfl rfl rfl rfl rfl
  case tick pins late => exact h.event fun _ => h.settleAll.tickNow pins late
  case encoderEdge d => exact h.event fun _ => (h.edgeStart _).dropAdvance.takeEncoder d
  case rateCountdownExpiry => exact h.event fun _ => h.takeRateExpiry
  case xstopActive => exact h.event fun _ => h.xstopChange .falling
  case xstopInactive => exact h.event fun _ => h.xstopChange .rising
  case leadEdge l => exact h.event fun _ => h.laneEdge l .lead
  case trailingEdge l => exact h.event fun _ => h.laneEdge l .trailing
  case jam l => exact h.event fun _ => h.takeJam l
  case deadline u => exact h.event fun _ => h.takeDeadline u
  case arrival n => exact h.event fun _ => h.takeArrival n
  case offPositionReached n => exact h.event fun _ => h.takeOffPosition n
  case timePulseEnd n => exact h.event fun _ => (h.takeLateTick n).takeTimePulseEnd n
  case maxOnCut n => exact h.event fun _ => (h.takeLateTick n).takeMaxOnCut n
  case recoveryEnd n => exact h.event fun _ => (h.takeLateTick n).takeRecoveryEnd n
  case guardMarkReached n => exact h.event fun _ => h.takeGuardMark n
  case drainCompletion => exact h.event fun _ => h.keep h.drainCheck_keeps (drainCheck_waiting s)
  case backlogPromotion => exact h.event fun _ => hs.promote_eq.symm ▸ h
  all_goals exact h.runCommand (by simp) (by simp)

end
end Sys2Proof.Machine
end

section
/-! NEXT_OUTCOME and the promotion: the reply of Table 9.6, the head that is delivered, and the outcomes that wait after it (R71,
R139, R142). -/

namespace Sys2Proof.Machine

section
variable {P : ItemRecord → Prop} {s t : State} {o : OutcomeRecord} {rest : List OutcomeRecord} {r : ItemRecord} {u : Byte}
  {us : List Byte}

/-! ### The reply (R138, R158) -/

theorem outcomePresence_eq (o : OutcomeRecord) :
    outcomePresence o = (if o.verdict.isSome then 1 else 0) + (if o.length.isSome then 2 else 0) +
      (if o.firing.isSome then 4 else 0) := by
  rw [outcomePresence, ← Nat.one_mul o.verdict.isSome.toNat]
  simp only [packed_add, packed_bit]
  rfl

theorem outcomeReply_eq (o : OutcomeRecord) :
    outcomeReply o = #v[o.tag, BitVec.ofNat 8 o.lane.val, o.outcome.code,
                        (if o.verdict.isSome then 1 else 0) + (if o.length.isSome then 2 else 0) +
                          (if o.firing.isSome then 4 else 0),
                        o.lead.extractLsb' 0 8, o.lead.extractLsb' 8 8, o.lead.extractLsb' 16 8,
                        ((o.verdict.map (fun v => BitVec.ofNat 8 v.2.val +
                          (if v.1 = .defaulted then 128 else 0))).getD 0 : Byte),
                        (o.length.getD 0).extractLsb' 0 8, (o.length.getD 0).extractLsb' 8 8,
                        ((o.firing.map Firing.onPos).getD 0).extractLsb' 0 8,
                        ((o.firing.map Firing.onPos).getD 0).extractLsb' 8 8,
                        ((o.firing.map Firing.onPos).getD 0).extractLsb' 16 8,
                        ((o.firing.map Firing.onTicks).getD 0).extractLsb' 0 8,
                        ((o.firing.map Firing.onTicks).getD 0).extractLsb' 8 8, 0] := by
  rw [← outcomePresence_eq]
  simp only [← packed_source]
  unfold outcomeReply
  cases o.verdict <;> cases o.firing <;> rfl

/-! ### The head and the promotion (R71, R142) -/

theorem exec_backlogPromotion (hreset : s.inReset = false) : exec .backlogPromotion s = .next (promote s) :=
  congrArg _ (event_taken hreset)

/-- With no backlog the head leaves the queue, and nothing follows. -/
theorem doNextOutcome_alone (hq : s.queue = o :: rest) (hb : s.backlog = []) :
    doNextOutcome s = (.ok, { s with queue := rest, reply := outcomeReply o }) := by
  rw [doNextOutcome_head hq, promote_none (.inl (by exact hb))]

/-- The head of the backlog joins the queue, where the delivered record has made room (R139, R142). -/
theorem doNextOutcome_promotes (hlen : s.queue.length ≤ 16) (hq : s.queue = o :: rest) (hb : s.backlog = u :: us)
    (hr : s.heldRecord u = some r) :
    doNextOutcome s =
      (.ok, { s.freeSlot u with
              reply := outcomeReply o, backlog := us, queue := rest ++ [outcomeOf r (r.outcome.getD .halted)] }) := by
  have hroom : rest.length < 16 := by
    rw [hq, List.length_cons] at hlen
    exact hlen
  rw [doNextOutcome_head hq, promote_head (by exact hb) (by exact hroom) (by exact hr)]
  rfl

/-- The head of the backlog names a RETIRED record, which holds its OUTCOME (R50, R52). -/
theorem State.Sound.backlogged (h : s.Sound) (hu : u ∈ s.backlog) :
    ∃ r ∈ s.items, ∃ code : OutcomeCode, r.tag = u ∧ r.state = .retired ∧ r.outcome = some code := by
  obtain ⟨r, hr, hru, hrs⟩ := (h.backlog.2 u).1 hu
  have hp := h.presence r hr
  simp only [ItemRecord.presence, hrs] at hp
  obtain ⟨code, hcode⟩ := Option.ne_none_iff_exists'.1 hp
  exact ⟨r, hr, code, hru, hrs, hcode⟩

/-! ### What waits after a delivery (R139, R142) -/

/-- Nothing waits behind an empty queue (R139). -/
theorem State.queueLaw.waiting_nil (h : s.queueLaw) (hq : s.queue = []) : s.waiting = [] := by
  have hb : s.backlog = [] := by
    by_contra hb
    simpa [hq] using h.2 hb
  simp [State.waiting, hq, hb]

/-- A delivery takes the first of the waiting outcomes; the promotion leaves the others in their order. -/
theorem State.Filed.doNextOutcome_waiting (h : s.Filed P) (hlaw : s.queueLaw) (hq : s.queue = o :: rest) :
    s.waiting = o :: (doNextOutcome s).2.waiting := by
  cases hb : s.backlog with
  | nil =>
    rw [doNextOutcome_alone hq hb]
    simp [State.waiting, hq, hb]
  | cons u us =>
    obtain ⟨r, hr⟩ := h.heldRecord_backlog (u := u) (by simp [hb])
    have hnd : u ∉ us := (List.nodup_cons.1 (hb ▸ h.backlog.1)).1
    have hothers : ∀ v ∈ us, (s.freeSlot u).heldRecord v = s.heldRecord v := fun v hv =>
      heldRecord_freeSlot_ne s fun e => hnd (e ▸ hv)
    rw [doNextOutcome_promotes hlaw.1 hq hb hr]
    calc s.waiting = o :: (rest ++ outcomeOf r (r.outcome.getD .halted) :: s.outcomesOf us) := by
          rw [waiting_eq, hq, hb, outcomesOf_cons hr, List.cons_append]
      _ = o :: ((rest ++ [outcomeOf r (r.outcome.getD .halted)]) ++ (s.freeSlot u).outcomesOf us) := by
          rw [outcomesOf_congr hothers, List.append_assoc, List.singleton_append]

end

/-- Settles O55: the walk over the events gives what every other row and the tick before the command keep, and the delivery takes the
first of it. -/
theorem outcomesWaitInRetirementOrder : Obligations.OutcomesWaitInRetirementOrder := by
  refine fun c s t hs he => ⟨fun hnext hclear hbad hwrite hreset hrelease => ?_, ?_⟩
  · obtain ⟨more, hmore⟩ := (hs.coupled.awaits.exec hs he hnext hclear hbad hwrite hreset hrelease).law
    exact ⟨more, hmore.symm⟩
  · rintro rfl hreset
    obtain ⟨a, ha⟩ : ∃ a, a = finishTick s := ⟨_, rfl⟩
    obtain ⟨hcoupled, more, hmore⟩ : a.Awaits s.waiting := ha ▸ hs.coupled.awaits.finishTick
    have hlaw : a.queueLaw := ha ▸ (State.Holds.finishTick ⟨hs.coupled, hs.deliveryLaw⟩ deliveryLaw_eventLaw).law.queue
    have ht : t.waiting = (doNextOutcome a).2.waiting := by
      obtain rfl := Host.Outcome.next.inj he
      rw [runCommand_taken hreset, ← ha]
      rfl
    rw [← ha, ht]
    refine ⟨more, hmore.symm, ?_⟩
    rw [hmore]
    cases hq : a.queue with
    | nil =>
      rw [doNextOutcome_empty hq]
      exact .inl ⟨hlaw.waiting_nil hq, hlaw.waiting_nil hq⟩
    | cons o rest => exact .inr ⟨o, hcoupled.toFiled.doNextOutcome_waiting hlaw hq⟩

/-- Settles O54: in a sound state the delivery makes the room that the head of the backlog takes. -/
theorem nextOutcomeDeliversTheHead : Obligations.NextOutcomeDeliversTheHead := by
  refine ⟨fun s₀ s hreset hs => ⟨fun hq => ?_, fun o rest a hq ha => ?_⟩,
    fun s hreset => ⟨fun u us r code hb hroom hr hcode => ?_, fun hnone => ?_⟩⟩
  · exact exec_command (i := .nextOutcome) (c := .nextOutcome) rfl hreset hs (doNextOutcome_empty hq)
  · rw [← outcomeReply_eq] at ha
    subst ha
    refine ⟨fun hb => ?_, fun u us hsound hb => ?_⟩
    · exact exec_command (i := .nextOutcome) (c := .nextOutcome) rfl hreset hs (doNextOutcome_alone hq hb)
    · obtain ⟨r, hr, code, hru, hrs, hcode⟩ := hsound.backlogged (u := u) (by simp [hb])
      have hheld : s.heldRecord u = some r := hru ▸ hsound.table.heldRecord_eq hr
      have hbody := doNextOutcome_promotes hsound.queue.1 hq hb hheld
      rw [hcode] at hbody
      exact ⟨r, hr, code, hru, hrs, hcode,
        exec_command (i := .nextOutcome) (c := .nextOutcome) rfl hreset hs hbody⟩
  · rw [exec_backlogPromotion hreset, promote_head hb hroom hr, hcode]
    rfl
  · rw [exec_backlogPromotion hreset, promote_none hnone]

end Sys2Proof.Machine
end

section
/-! What a row leaves of the commands that wait and of the parameter bytes: only PARAM writes and reset change the parameters, and
nothing changes the waiting commands (R151, R162). -/

namespace Sys2Proof.Machine

section
variable {s t : State}

/-! ### The waiting commands and the parameter bytes -/

/-- From `s` to `t` what the host has put there to be read later stays: the waiting commands and the parameter bytes. -/
structure HostKept (t s : State) : Prop where
  pending : t.pending = s.pending
  params  : t.params = s.params

theorem HostKept.refl (s : State) : HostKept s s := ⟨rfl, rfl⟩

theorem HostKept.trans {a b c : State} (h : HostKept a b) (h' : HostKept b c) : HostKept a c :=
  ⟨h.pending.trans h'.pending, h.params.trans h'.params⟩

theorem finishTick_hostKept (s : State) : HostKept (finishTick s) s := ⟨finishTick_pending s, finishTick_params s⟩

theorem event_hostKept {f : State → State} (h : HostKept (f s) s) : HostKept (event f s) s := by
  unfold event
  split
  · exact .refl s
  · exact h

theorem access_hostKept {f : State → State} (h : ∀ a, HostKept (f a) a) : HostKept (access f s) s :=
  event_hostKept ((h _).trans (finishTick_hostKept s))

/-! ### The commands -/

theorem doVerdict_hostKept (s : State) : HostKept (doVerdict s).2 s := by
  unfold doVerdict
  split
  · exact .refl s
  · split
    next => exact .refl s
    next =>
      unfold verdictPending
      simp only
      (repeat' split) <;> constructor <;> simp [refuse]
    all_goals exact .refl s

/-- No command reads or writes the queue, and none writes a parameter byte (R151). -/
theorem commandBody_hostKept (c : HostCommand) (s : State) : HostKept (commandBody c s).2 s := by
  cases c with
  | drain => simp only [commandBody, doDrain]; split <;> constructor <;> simp [refuse]
  | halt => simp only [commandBody, doHalt]; (repeat' split) <;> constructor <;> simp [refuse]
  | nextOutcome => simp only [commandBody, doNextOutcome]; split <;> constructor <;> simp [refuse]
  | verdict => exact doVerdict_hostKept s
  | pass => simp only [commandBody, doPass]; (repeat' split) <;> constructor <;> simp [refuse]
  | abort => simp only [commandBody, doAbort]; (repeat' split) <;> constructor <;> simp [refuse]
  | _ =>
    simp only [commandBody, doStart, doResume, doClearLine, doSetTimebase, doSetPosition, doSetLane, doSetStation, doSetProfile,
      doSetFreeThreshold, doReadLane, doReadStation, doReadProfile, doReadItem, doReadTimebase, doNextDetection]
    (repeat' split) <;> exact ⟨rfl, rfl⟩

theorem runCommand_hostKept (c : HostCommand) (s : State) : HostKept (runCommand c s) s := by
  cases hr : s.inReset with
  | true => rw [runCommand_held hr]; exact .refl s
  | false =>
    rw [runCommand_taken hr]
    have h := (commandBody_hostKept c (finishTick s)).trans (finishTick_hostKept s)
    exact ⟨h.pending, h.params⟩

theorem writeCmd_hostKept (b : Byte) (s : State) : HostKept (writeCmd b s) s := by
  unfold writeCmd
  split
  · exact runCommand_hostKept _ s
  · exact event_hostKept ⟨rfl, rfl⟩

/-- A byte delivered outside PARAM0 to PARAM11 (R150, R151). -/
theorem deliver_hostKept {a : BitVec 6} (ha : a.toNat < 0x02 ∨ 0x0D < a.toNat) (b : Byte) (s : State) :
    HostKept (deliver a b s) s := by
  have hparam : ¬ (0x02 ≤ a.toNat ∧ a.toNat ≤ 0x0D) := by omega
  simp only [deliver, hparam, dite_false]
  split
  · exact writeCmd_hostKept b s
  · split
    · exact access_hostKept fun _ => ⟨rfl, rfl⟩
    · split <;> exact ⟨rfl, rfl⟩

/-! ### The edges and the tick -/

theorem edgeStart_hostKept (waits : Bool) (s : State) : HostKept (edgeStart waits s) s := by
  unfold edgeStart
  split
  · exact .refl s
  · exact finishTick_hostKept s

theorem takeEncoder_hostKept (d : EdgeDir) (s : State) : HostKept (takeEncoder d s) s := by
  unfold takeEncoder
  simp only
  split
  · constructor <;> simp
  · exact ⟨rfl, rfl⟩

theorem takeRateExpiry_hostKept (s : State) : HostKept (takeRateExpiry s) s := by
  unfold takeRateExpiry
  split <;> constructor <;> simp

theorem laneEdge_hostKept (l : LaneNo) (x : Sense) (s : State) : HostKept (laneEdge l x s) s := by
  refine HostKept.trans ?_ (edgeStart_hostKept (s.laneWaits l x) s)
  constructor <;> simp [laneEdge]

theorem xstopChange_hostKept (d : EdgeDir) (s : State) : HostKept (xstopChange d s) s := by
  refine HostKept.trans ?_ (edgeStart_hostKept (decide (s.xstopEdge = some d)) s)
  constructor <;> simp [xstopChange]

theorem forStations_hostKept {f : StationNo → State → State} (hf : ∀ n a, HostKept (f n a) a) (s : State) :
    HostKept (forStations f s) s :=
  ⟨foldl_keeps State.pending _ (fun a n => (hf n a).pending) allStations s,
   foldl_keeps State.params _ (fun a n => (hf n a).params) allStations s⟩

theorem settleAll_hostKept (s : State) : HostKept (settleAll s) s := by
  have hdue : HostKept (settleReached (takeDueAdvance (settleDue s))) s := by constructor <;> simp
  have hlate := forStations_hostKept (f := takeLateTick) (fun n a => by constructor <;> simp)
    (settleReached (takeDueAdvance (settleDue s)))
  refine HostKept.trans ?_ (hlate.trans hdue)
  constructor <;> simp [settleAll]

theorem tickNow_hostKept (pins : PinSamples) (late : BitVec 8) (s : State) : HostKept (tickNow pins late s) s := by
  have hcount : ∀ a, HostKept (countRate a) a := fun a => by
    unfold countRate
    (repeat' split) <;> exact ⟨rfl, rfl⟩
  have hlanes : ∀ a, HostKept (sampleLanes pins.sns a) a := fun a =>
    ⟨foldl_keeps State.pending _ (fun _ _ => rfl) allLanes a, foldl_keeps State.params _ (fun _ _ => rfl) allLanes a⟩
  have hengines : ∀ a, HostKept (tickEngines late a) a := forStations_hostKept fun n a => by
    simp only
    split <;> constructor <;> simp
  exact (hengines _).trans ((hcount _).trans ((hlanes _).trans ⟨rfl, rfl⟩))

/-! ### The rows -/

/-- Every row but a PARAM write and a reset keeps the waiting commands and the parameter bytes (R151). -/
theorem exec_hostKept {c : Instr} (he : exec c s = .next t) (hparam : ∀ n b, c ≠ .paramWrite n b)
    (hwrite : ∀ a b y, c = .registerWrite a b y → a.toNat < 0x02 ∨ 0x0D < a.toNat) (hreset : ∀ n, c ≠ .reset n)
    (hrelease : c ≠ .resetRelease) : HostKept t s := by
  cases c <;> obtain rfl := Host.Outcome.next.inj he
  case paramWrite n b => exact absurd rfl (hparam n b)
  case reset n => exact absurd rfl (hreset n)
  case resetRelease => exact absurd rfl hrelease
  case badCommand b => exact writeCmd_hostKept b s
  case registerWrite a b y =>
    refine event_hostKept ?_
    split
    · exact deliver_hostKept (hwrite a b y rfl) b s
    · exact .refl s
  case irqEnableWrite => exact event_hostKept ⟨rfl, rfl⟩
  case irqFlagsWrite b => exact access_hostKept fun _ => ⟨rfl, rfl⟩
  case pos0Read => exact access_hostKept fun _ => ⟨rfl, rfl⟩
  case tick pins late => exact event_hostKept ((tickNow_hostKept pins late _).trans (settleAll_hostKept s))
  case encoderEdge d =>
    refine event_hostKept ((takeEncoder_hostKept d _).trans (HostKept.trans ?_ (edgeStart_hostKept (s.encoderWaits d) s)))
    exact ⟨rfl, rfl⟩
  case rateCountdownExpiry => exact event_hostKept (takeRateExpiry_hostKept s)
  case xstopActive => exact event_hostKept (xstopChange_hostKept .falling s)
  case xstopInactive => exact event_hostKept (xstopChange_hostKept .rising s)
  case leadEdge l => exact event_hostKept (laneEdge_hostKept l .lead s)
  case trailingEdge l => exact event_hostKept (laneEdge_hostKept l .trailing s)
  case jam l => exact event_hostKept ⟨takeJam_pending l s, takeJam_params l s⟩
  case deadline u => exact event_hostKept ⟨takeDeadline_pending u s, takeDeadline_params u s⟩
  case arrival n => exact event_hostKept ⟨takeArrival_pending n s, takeArrival_params n s⟩
  case offPositionReached n => exact event_hostKept ⟨takeOffPosition_pending n s, takeOffPosition_params n s⟩
  case timePulseEnd n => exact event_hostKept (by constructor <;> simp)
  case maxOnCut n => exact event_hostKept (by constructor <;> simp)
  case recoveryEnd n => exact event_hostKept (by constructor <;> simp)
  case guardMarkReached n => exact event_hostKept ⟨takeGuardMark_pending n s, takeGuardMark_params n s⟩
  case drainCompletion => exact event_hostKept ⟨drainCheck_pending s, drainCheck_params s⟩
  case backlogPromotion => exact event_hostKept ⟨promote_pending s, promote_params s⟩
  all_goals exact runCommand_hostKept _ s

/-- A byte delivered to a parameter is stored in it, and nothing else changes (R151). -/
theorem deliver_inParams {a : BitVec 6} (ha : 0x02 ≤ a.toNat ∧ a.toNat ≤ 0x0D) (b : Byte) (s : State) :
    deliver a b s = { s with params := s.params.set (a.toNat - 2) b } := by
  have hcmd : a.toNat ≠ 0x00 := by omega
  simp only [deliver, hcmd, if_false, ha, and_self, dite_true]
  rfl

/-- No row adds or removes a waiting command: a PARAM write changes the parameters alone, and a reset leaves the queue, which is not
the part's (log 7). -/
theorem exec_pending {c : Instr} (he : exec c s = .next t) : t.pending = s.pending := by
  cases c
  case paramWrite n b =>
    obtain rfl := Host.Outcome.next.inj he
    unfold event
    split <;> rfl
  case reset n =>
    obtain rfl := Host.Outcome.next.inj he
    split <;> rfl
  case resetRelease =>
    obtain rfl := Host.Outcome.next.inj he
    split <;> rfl
  case registerWrite a b y =>
    by_cases ha : 0x02 ≤ a.toNat ∧ a.toNat ≤ 0x0D
    · obtain rfl := Host.Outcome.next.inj he
      simp only [event, deliver_inParams ha]
      (repeat' split) <;> rfl
    · refine (exec_hostKept he nofun (fun a' b' y' e => ?_) nofun nofun).pending
      obtain ⟨rfl, rfl, rfl⟩ := Instr.registerWrite.inj e
      omega
  all_goals exact (exec_hostKept he nofun nofun nofun nofun).pending

end

/-- Every row has a meaning in every state, and ends in no fault (R154, log 19). -/
theorem exec_answers (c : Instr) (s : State) : ∃ t, exec c s = .next t := by
  cases c <;> exact ⟨_, rfl⟩

/-- Settles O3. -/
theorem everyCommandAnswersAndKeepsTheQueue : Obligations.EveryCommandAnswersAndKeepsTheQueue := by
  intro c s
  obtain ⟨t, ht⟩ := exec_answers c s
  exact ⟨t, ht, exec_pending ht⟩

/-- Settles O1. -/
theorem stepTakesFrontCommand : Obligations.StepTakesFrontCommand := fun _ _ _ => rfl

end Sys2Proof.Machine
end

section
/-! The register window and the bus cycles of chapter 9: what a write cycle delivers to each location, what a read of each location
returns, and when the data lines are driven (R149 to R153). -/

namespace Sys2Proof.Machine

section
variable {s : State}

/-! ### Write cycles (R149) -/

theorem cycleTaken_eq (y : BusCycle) : cycleTaken y = (!y.rdLow && decide (2 ≤ y.periods)) := by
  unfold cycleTaken Config.minWritePeriods
  cases y.rdLow <;> rfl

/-- A write cycle of 2 CLKIN periods or more, with RD high, delivers its byte. -/
theorem registerWrite_taken {y : BusCycle} (hreset : s.inReset = false) (hrd : y.rdLow = false) (hlong : 2 ≤ y.periods)
    (a : BitVec 6) (b : Byte) : exec (.registerWrite a b y) s = .next (deliver a b s) := by
  have hy : cycleTaken y = true := by simp [cycleTaken_eq, hrd, hlong]
  have he : event (fun s => if cycleTaken y then deliver a b s else s) s = deliver a b s := by
    rw [event_taken hreset, if_pos hy]
  exact congrArg _ he

/-- Any other cycle delivers nothing. -/
theorem registerWrite_untaken {y : BusCycle} (hy : y.rdLow = true ∨ y.periods < 2) (a : BitVec 6) (b : Byte) (s : State) :
    exec (.registerWrite a b y) s = .next s := by
  have hy' : ¬ cycleTaken y = true := by
    obtain h | h := hy <;> simp [cycleTaken_eq, h]
  have he : event (fun s => if cycleTaken y then deliver a b s else s) s = s := by simp [event, hy']
  exact congrArg _ he

/-- Held in reset, no write cycle is taken (R162). -/
theorem registerWrite_held (hreset : s.inReset = true) (a : BitVec 6) (b : Byte) (y : BusCycle) :
    exec (.registerWrite a b y) s = .next s := congrArg _ (event_held hreset)

/-! ### The byte by its location (R150) -/

theorem deliver_param (n : Fin 12) (b : Byte) (s : State) :
    deliver (BitVec.ofNat 6 (n.val + 2)) b s = { s with params := s.params.set n.val b } := by
  have ha : (BitVec.ofNat 6 (n.val + 2)).toNat = n.val + 2 := by simp; omega
  rw [deliver_inParams (by omega)]
  simp only [ha, Nat.add_sub_cancel]

/-- RESULT, STATUS and every location above IRQ_ENABLE ignore a write. -/
theorem deliver_readOnly {a : BitVec 6} (ha : a = 0x01 ∨ a = 0x0E ∨ 0x11 ≤ a.toNat) (b : Byte) (s : State) :
    deliver a b s = s := by
  obtain rfl | rfl | ha := ha
  · rfl
  · rfl
  · have hcmd : a.toNat ≠ 0x00 := by omega
    have hparam : ¬ (0x02 ≤ a.toNat ∧ a.toNat ≤ 0x0D) := by omega
    have hflags : a.toNat ≠ 0x0F := by omega
    have henable : a.toNat ≠ 0x10 := by omega
    simp only [deliver, hcmd, hparam, hflags, henable, if_false, dite_false]

/-! ### CMD (R152, R153) -/

/-- The codes of Table 9.2. -/
theorem map_code_hostCommands : hostCommands.map HostCommand.code =
    [0x01, 0x02, 0x03, 0x04, 0x05, 0x10, 0x11, 0x12, 0x13, 0x14, 0x15, 0x20, 0x21, 0x22, 0x23, 0x24, 0x30, 0x31,
     0x40, 0x41, 0x42] := rfl

theorem ofCode_eq_none (b : Byte) : HostCommand.ofCode b = none ↔ b ∉ hostCommands.map HostCommand.code := by
  simp [HostCommand.ofCode, List.find?_eq_none]

/-- A byte that names no command is refused. -/
theorem writeCmd_unnamed {b : Byte} (hreset : s.inReset = false) (hb : HostCommand.ofCode b = none) :
    writeCmd b s = { s with cmd := b, result := .badCommand } := by
  simp only [writeCmd, hb]
  exact event_taken hreset

theorem writeCmd_code (c : HostCommand) (s : State) : writeCmd c.code s = runCommand c s := by
  simp only [writeCmd, Laws.HostCode.ofCode_code]

/-- The row of a mailbox command takes that command. -/
theorem exec_of_hostCommand {i : Instr} {c : HostCommand} (hi : i.hostCommand = some c) (s : State) :
    exec i s = .next (runCommand c s) := by
  cases i <;> cases hi <;> rfl

/-! ### Reads (R150, Table 9.1) -/

theorem readLocation_param (s : State) (n : Fin 12) : s.readLocation (BitVec.ofNat 6 (n.val + 2)) = s.params[n.val] := by
  have ha : (BitVec.ofNat 6 (n.val + 2)).toNat = n.val + 2 := by simp; omega
  have hn : n.val + 2 ≤ 0x0D := by omega
  simp [State.readLocation, ha, hn]

theorem readLocation_reply (s : State) (n : Fin 16) : s.readLocation (BitVec.ofNat 6 (n.val + 32)) = s.reply[n.val] := by
  have ha : (BitVec.ofNat 6 (n.val + 32)).toNat = n.val + 32 := by simp; omega
  have hn : n.val + 32 ≤ 0x2F := by omega
  simp [State.readLocation, ha, hn]

/-- The locations that Table 9.1 does not name read as 0. -/
theorem readLocation_unnamed {a : BitVec 6} (ha : 0x18 ≤ a.toNat ∧ a.toNat ≤ 0x1F ∨ 0x30 ≤ a.toNat) (s : State) :
    s.readLocation a = 0 := by
  unfold State.readLocation
  simp only
  rw [if_neg (by omega), if_neg (by omega), dif_neg (by omega), if_neg (by omega), if_neg (by omega), if_neg (by omega),
    if_neg (by omega), if_neg (by omega), if_neg (by omega), if_neg (by omega), if_neg (by omega), if_neg (by omega),
    if_neg (by omega), dif_neg (by omega)]

/-- The bit of weight `k` in a byte. -/
theorem ofNat_mul_toNat (k : Nat) (b : Bool) : BitVec.ofNat 8 (k * b.toNat) = if b = true then BitVec.ofNat 8 k else 0 := by
  cases b <;> simp

/-- STATUS (R161, Table 9.10): run state, XSTOP and halt cause stand in fields of their own. -/
theorem status_eq (s : State) : s.status =
    BitVec.ofNat 8 s.run.code + (if s.xstopFilter.q = .low then 4 else 0) + BitVec.ofNat 8 (16 * s.haltCause.code) := by
  simp only [State.status, packed, BitVec.ofNat_add, ofNat_mul_toNat, State.xstopActive, beq_iff_eq]
  rfl

/-- IRQ_FLAGS (R161, Table 9.10): the seven flags at their weights, and bit 7 at 0. -/
theorem flagBits_eq (s : State) : s.flagBits.setWidth 8 =
    (if s.announce = [] then 0 else 1) + (if s.queue = [] then 0 else 2) + (if s.laneAlert then 4 else 0) +
      (if s.haltEntered then 8 else 0) + (if s.drainDone then 16 else 0) + (if s.freeLow then 32 else 0) +
      (if s.backlogFlag then 64 else 0) := by
  have hd : BitVec.ofNat 8 s.detectionReady.toNat = if s.announce = [] then 0 else 1 := by
    unfold State.detectionReady
    cases s.announce <;> rfl
  have ho : BitVec.ofNat 8 (2 * s.outcomeReady.toNat) = if s.queue = [] then 0 else 2 := by
    unfold State.outcomeReady
    cases s.queue <;> rfl
  unfold State.flagBits
  rw [BitVec.setWidth_ofNat_of_le_of_lt (by decide)]
  · simp only [BitVec.ofNat_add, hd, ho, ofNat_mul_toNat]
    rfl
  · have := Bool.toNat_le s.detectionReady
    have := Bool.toNat_le s.outcomeReady
    have := Bool.toNat_le s.laneAlert
    have := Bool.toNat_le s.haltEntered
    have := Bool.toNat_le s.drainDone
    have := Bool.toNat_le s.freeLow
    have := Bool.toNat_le s.backlogFlag
    omega

/-! ### Fields of several bytes (R155) -/

/-- The low part first: an appended value weighs its upper part by the width of its lower part. -/
theorem toNat_append_add {m n : Nat} (x : BitVec m) (y : BitVec n) : (x ++ y).toNat = 2 ^ n * x.toNat + y.toNat := by
  rw [BitVec.toNat_append, ← Nat.shiftLeft_add_eq_or_of_lt y.isLt, Nat.shiftLeft_eq, Nat.mul_comm]

theorem toNat_halfOf (lo hi : Byte) : (halfOf lo hi).toNat = lo.toNat + 256 * hi.toNat :=
  (toNat_append_add hi lo).trans (Nat.add_comm ..)

theorem toNat_posOf (lo mid hi : Byte) : (posOf lo mid hi).toNat = lo.toNat + 256 * mid.toNat + 65536 * hi.toNat := by
  have h := toNat_append_add hi (mid ++ lo)
  have h' := toNat_append_add mid lo
  change (hi ++ (mid ++ lo)).toNat = _
  omega

/-! ### The data lines (R149) -/

theorem accessKind_eq_read (x : Strobes) : accessKind x = .read ↔ x.cs = .low ∧ x.rd = .low ∧ x.wr = .high := by
  obtain ⟨cs, rd, wr⟩ := x
  cases cs <;> cases rd <;> cases wr <;> decide

theorem dataLines_read {start now : State} {x : Strobes} (hx : x.cs = .low ∧ x.rd = .low ∧ x.wr = .high)
    (hs : start.inReset = false) (hn : now.inReset = false) (a : BitVec 6) :
    dataLines start now a x = some (start.readLocation a) := by
  simp [dataLines, hs, hn, (accessKind_eq_read x).2 hx]

theorem dataLines_noRead {x : Strobes} (hx : x.cs = .high ∨ x.rd = .high ∨ x.wr = .low) (start now : State) (a : BitVec 6) :
    dataLines start now a x = none := by
  have hk : accessKind x ≠ .read := fun h => by
    obtain ⟨hcs, hrd, hwr⟩ := (accessKind_eq_read x).1 h
    simp [hcs, hrd, hwr] at hx
  simp [dataLines, hk]

end

/-- Settles O8. -/
theorem registerWritesActByLocation : Obligations.RegisterWritesActByLocation := by
  refine ⟨fun s b hreset => ⟨fun n => ⟨?_, ?_⟩, fun a y hy => registerWrite_untaken hy a b s,
      fun a y hrd hlong => ⟨fun n ha => ?_, fun ha => ?_, fun ha => ?_, fun ha => ?_⟩⟩,
    fun start now a x => ⟨fun hx hs hn => dataLines_read hx hs hn a, fun hx => dataLines_noRead hx start now a⟩,
    fun c s t he hparam hwrite hreset hrelease => (exec_hostKept he hparam hwrite hreset hrelease).params⟩
  · exact congrArg _ (event_taken hreset)
  · rw [readLocation_param]
    exact Vector.getElem_set_self n.isLt
  all_goals rw [registerWrite_taken hreset hrd hlong a b]
  · rw [ha, deliver_param]
  · subst ha; rfl
  · subst ha; rfl
  · rw [deliver_readOnly ha]

/-- Settles O6. -/
theorem codesOutsideTheTableAreRefused : Obligations.CodesOutsideTheTableAreRefused := by
  refine ⟨ofCode_eq_none, ?_, fun b s hreset hb => ⟨?_, fun y hrd hlong => ?_⟩⟩
  · rw [← map_code_hostCommands, List.map_map, funext (f := HostCommand.ofCode ∘ HostCommand.code) Laws.HostCode.ofCode_code]
    rfl
  · exact congrArg _ (writeCmd_unnamed hreset hb)
  · rw [registerWrite_taken hreset hrd hlong]
    exact congrArg _ (writeCmd_unnamed hreset hb)

/-- Settles O7. -/
theorem cmdWriteTakesTheNamedCommand : Obligations.CmdWriteTakesTheNamedCommand := by
  intro i c s y hi hrd hlong
  rw [exec_of_hostCommand hi]
  cases hreset : s.inReset with
  | true => rw [registerWrite_held hreset, runCommand_held hreset]
  | false =>
    rw [registerWrite_taken hreset hrd hlong]
    exact congrArg _ (writeCmd_code c s)

/-- Settles O13. -/
theorem codesAreThoseOfTheTables : Obligations.CodesAreThoseOfTheTables := by
  refine ⟨rfl, rfl, rfl, rfl, fun _ _ => rfl, toNat_halfOf, toNat_posOf, fun s =>
    ⟨rfl, rfl, readLocation_param s, (status_eq s).trans ?_, flagBits_eq s, rfl, rfl, rfl, rfl, rfl, rfl, rfl, rfl,
     readLocation_reply s, fun _ ha => readLocation_unnamed ha s⟩⟩
  cases s.run <;> cases s.haltCause <;> rfl

end Sys2Proof.Machine
end

section
/-! Reset (R162): the state it leaves, and what a part that is held in reset does not take. -/

namespace Sys2Proof.Machine

section
variable {s : State}

/-! ### RESET and RESET_RELEASE -/

theorem exec_reset {n : Nat} (h : 4 ≤ n) (s : State) :
    exec (.reset n) s = .next { State.reset with pending := s.pending, inReset := true } := congrArg _ (if_pos h)

theorem exec_reset_short {n : Nat} (h : n < 4) (s : State) : exec (.reset n) s = .next s :=
  congrArg _ (if_neg (Nat.not_le.2 h))

theorem exec_resetRelease (h : s.inReset = true) : exec .resetRelease s = .next { State.reset with pending := s.pending } :=
  congrArg _ (if_pos h)

theorem exec_resetRelease_free (h : s.inReset = false) : exec .resetRelease s = .next s :=
  congrArg _ (if_neg (by simp [h]))

/-! ### Held in reset -/

theorem writeCmd_held (h : s.inReset = true) (b : Byte) : writeCmd b s = s := by
  unfold writeCmd
  split
  · exact runCommand_held h
  · exact event_held h

/-- While the part is held in reset, every row but RESET and RESET_RELEASE leaves the state as it is: a command is not taken, and
every other row is an event or an access. -/
theorem exec_held (h : s.inReset = true) {c : Instr} (hreset : ∀ n, c ≠ .reset n) (hrelease : c ≠ .resetRelease) :
    exec c s = .next s := by
  cases hc : c.hostCommand with
  | some d => rw [exec_of_hostCommand hc, runCommand_held h]
  | none =>
    obtain ⟨t, he⟩ := exec_answers c s
    rw [he]
    refine congrArg _ ?_
    cases c <;> cases hc <;> obtain rfl := Host.Outcome.next.inj he
    case reset.refl n => exact absurd rfl (hreset n)
    case resetRelease.refl => exact absurd rfl hrelease
    case badCommand.refl b => exact writeCmd_held h b
    case irqFlagsWrite.refl b => exact access_held h
    case pos0Read.refl => exact access_held h
    all_goals exact event_held h

theorem outputPin_held (h : s.inReset = true) (n : StationNo) : s.outputPin n = .low := if_pos h

theorem interruptRequest_held (h : s.inReset = true) : s.interruptRequest = false := by
  simp [State.interruptRequest, h]

theorem dataLines_held (h : s.inReset = true) (start : State) (a : BitVec 6) (x : Strobes) : dataLines start s a x = none :=
  if_pos (.inr h)

end

/-- Settles O4. -/
theorem resetIsTakenHeldAndReleased : Obligations.ResetIsTakenHeldAndReleased :=
  ⟨fun _ s h => exec_reset h s, fun _ s h => exec_reset_short h s, fun _ => exec_resetRelease, fun _ => exec_resetRelease_free,
   fun _ h => ⟨fun _ => exec_held h, outputPin_held h, interruptRequest_held h, dataLines_held h⟩⟩

/-- The window after reset: XSTOP reads active in STATUS, all 32 slots are free, and every other location is 0 (R162, Table 9.1). -/
theorem readLocation_reset :
    ∀ a : BitVec 6, State.reset.readLocation a = if a = 0x0E then 0x04 else if a = 0x14 then 0x20 else 0x00 := by
  decide +kernel

theorem lane_reset (l : LaneNo) : State.reset.lane l = Lane.reset := by
  have h : State.reset.lanes = Vector.replicate 4 Lane.reset := rfl
  simp only [State.lane, h, Vector.getElem_replicate]

theorem station_reset (n : StationNo) : State.reset.station n = Station.reset := by
  have h : State.reset.stations = Vector.replicate 8 Station.reset := rfl
  simp only [State.station, h, Vector.getElem_replicate]

theorem profile_reset (n : ProfileNo) : State.reset.profile n = Profile.reset := by
  have h : State.reset.profiles = Vector.replicate 8 Profile.reset := rfl
  simp only [State.profile, h, Vector.getElem_replicate]

/-- Settles O5. -/
theorem resetStateReadsAsTheTables : Obligations.ResetStateReadsAsTheTables :=
  ⟨readLocation_reset, rfl, rfl, rfl, rfl, rfl, rfl, rfl, rfl, lane_reset, rfl, rfl, rfl, rfl, station_reset, profile_reset,
   rfl, rfl, rfl, rfl⟩

end Sys2Proof.Machine
end

section
/-! The interrupt flags, their enables and the request (chapter 10): the flags at their bits, the request that follows them, and
what a write of IRQ_ENABLE or of IRQ_FLAGS does (R163 to R166). -/

namespace Sys2Proof.Machine

section
variable {s : State}

/-! ### The request (R164, R165) -/

/-- The seven flags, bit 0 first (Table 9.10). -/
theorem flagBits_eq_ofBoolListLE (s : State) : s.flagBits = BitVec.ofBoolListLE
    [s.detectionReady, s.outcomeReady, s.laneAlert, s.haltEntered, s.drainDone, s.freeLow, s.backlogFlag] := by
  refine BitVec.eq_of_toNat_eq ?_
  have := Bool.toNat_le s.detectionReady
  have := Bool.toNat_le s.outcomeReady
  have := Bool.toNat_le s.laneAlert
  have := Bool.toNat_le s.haltEntered
  have := Bool.toNat_le s.drainDone
  have := Bool.toNat_le s.freeLow
  have := Bool.toNat_le s.backlogFlag
  simp only [State.flagBits, BitVec.ofBoolListLE, BitVec.toNat_concat, BitVec.toNat_ofNat, List.length_nil, Nat.reducePow]
  omega

theorem detectionReady_iff : s.detectionReady = true ↔ s.announce ≠ [] := by simp [State.detectionReady]

theorem outcomeReady_iff : s.outcomeReady = true ↔ s.queue ≠ [] := by simp [State.outcomeReady]

/-- Two words share a 1 exactly where their conjunction is not 0. -/
theorem and_ne_zero_iff {w : Nat} {x y : BitVec w} :
    x &&& y ≠ 0 ↔ ∃ i < w, x.getLsbD i = true ∧ y.getLsbD i = true := by
  constructor
  · intro h
    by_contra hn
    push Not at hn
    refine h (BitVec.eq_of_getLsbD_eq fun i hi => ?_)
    cases hx : x.getLsbD i <;> simp [hx, hn i hi]
  · rintro ⟨i, -, hx, hy⟩ h
    have hi : (x &&& y).getLsbD i = true := by simp [hx, hy]
    simp [h] at hi

theorem interruptRequest_iff : s.interruptRequest = true ↔
    s.inReset = false ∧ ∃ i < 7, s.flagBits.getLsbD i = true ∧ s.enables.getLsbD i = true := by
  simp [State.interruptRequest, ← and_ne_zero_iff]

/-! ### IRQ_ENABLE (R163) -/

theorem exec_irqEnableWrite (h : s.inReset = false) (b : Byte) :
    exec (.irqEnableWrite b) s = .next { s with enables := b.setWidth 7 } := congrArg _ (event_taken h)

/-- Bits 0 to 6 of a byte, read back with bit 7 at 0. -/
theorem setWidth_setWidth_eq_and (b : Byte) : (b.setWidth 7).setWidth 8 = b &&& 0x7F := by
  refine BitVec.eq_of_toNat_eq ?_
  simp [Nat.and_two_pow_sub_one_eq_mod _ 7]
  omega

/-! ### IRQ_FLAGS (R166) -/

theorem someJammed_iff : s.someJammed = true ↔ ∃ l, (s.lane l).state = .jammed := by
  simp [State.someJammed, mem_allLanes]

/-- A sticky flag after a write of IRQ_FLAGS: its bit `b` clears it, unless its hold condition stands. -/
theorem heldFlag_eq {flag b hold : Bool} {p : Prop} [Decidable p] (hp : hold = true ↔ p) :
    (flag && (!b || hold)) = if b = true ∧ ¬ p then false else flag := by
  cases b <;> cases hold <;> simp_all

/-- A sticky flag without a hold condition. -/
theorem freeFlag_eq (flag b : Bool) : (flag && !b) = if b = true then false else flag := by
  cases b <;> simp

theorem writeFlags_eq (b : Byte) (s : State) : writeFlags b s =
    { s with
      laneAlert := if b.getLsbD 2 = true ∧ ¬ (∃ l, (s.lane l).state = .jammed) then false else s.laneAlert,
      haltEntered := if b.getLsbD 3 = true then false else s.haltEntered,
      drainDone := if b.getLsbD 4 = true then false else s.drainDone,
      freeLow := if b.getLsbD 5 = true ∧ ¬ (32 - s.items.length < s.freeThreshold.toNat) then false else s.freeLow,
      backlogFlag := if b.getLsbD 6 = true ∧ s.backlog = [] then false else s.backlogFlag } := by
  have hbelow : s.freeBelow = true ↔ 32 - s.items.length < s.freeThreshold.toNat := decide_eq_true_iff
  have hbacklog : (!s.backlog.isEmpty) = true ↔ s.backlog ≠ [] := by simp
  simp only [writeFlags, heldFlag_eq someJammed_iff, heldFlag_eq hbelow, heldFlag_eq hbacklog, freeFlag_eq, not_not]

theorem exec_irqFlagsWrite (h : s.inReset = false) (b : Byte) :
    exec (.irqFlagsWrite b) s = .next (writeFlags b (finishTick s)) := 
  congrArg Host.Outcome.next (access_taken (f := writeFlags b) h)

end

/-- Settles O12: each flag and its enable stand at the same bit. -/
theorem requestFollowsFlagsAndEnables : Obligations.RequestFollowsFlagsAndEnables := by
  intro s
  rw [interruptRequest_iff, flagBits_eq_ofBoolListLE]
  simp only [Nat.exists_lt_succ_left, BitVec.getLsbD_ofBoolListLE]
  simp [detectionReady_iff, outcomeReady_iff]

end Sys2Proof.Machine
end

section
/-! What keeps the enables and the sticky flags: IRQ_ENABLE changes by its own write alone, and no sticky flag falls but by a write of
IRQ_FLAGS (R163, R166). -/

namespace Sys2Proof.Machine

section
variable {s t : State}

/-! ### The relation -/

/-- From `s` to `t` no sticky flag falls (R166). -/
structure StickyKept (t s : State) : Prop where
  laneAlert   : s.laneAlert = true → t.laneAlert = true
  haltEntered : s.haltEntered = true → t.haltEntered = true
  drainDone   : s.drainDone = true → t.drainDone = true
  freeLow     : s.freeLow = true → t.freeLow = true
  backlogFlag : s.backlogFlag = true → t.backlogFlag = true

/-- From `s` to `t` no sticky flag falls and the enables stay (R163, R166). -/
structure IrqKept (t s : State) : Prop extends StickyKept t s where
  enables : t.enables = s.enables

/-- What chapter 10 stores: the sticky flags and the enables. -/
def State.irqStore (s : State) : (Bool × Bool × Bool × Bool × Bool) × BitVec 7 :=
  ((s.laneAlert, s.haltEntered, s.drainDone, s.freeLow, s.backlogFlag), s.enables)

/-- An event that writes none of it. -/
theorem IrqKept.of_eq (h : t.irqStore = s.irqStore) : IrqKept t s := by
  simp only [State.irqStore, Prod.mk.injEq] at h
  obtain ⟨⟨hlane, hhalt, hdrain, hfree, hbacklog⟩, henables⟩ := h
  exact ⟨⟨hlane.trans, hhalt.trans, hdrain.trans, hfree.trans, hbacklog.trans⟩, henables⟩

theorem IrqKept.refl (s : State) : IrqKept s s := .of_eq rfl

theorem IrqKept.trans {a b c : State} (h : IrqKept a b) (h' : IrqKept b c) : IrqKept a c where
  laneAlert := h.laneAlert ∘ h'.laneAlert
  haltEntered := h.haltEntered ∘ h'.haltEntered
  drainDone := h.drainDone ∘ h'.drainDone
  freeLow := h.freeLow ∘ h'.freeLow
  backlogFlag := h.backlogFlag ∘ h'.backlogFlag
  enables := h.enables.trans h'.enables

/-- What is written after an event, and none of it here. -/
theorem IrqKept.frame (h : IrqKept t s) {t' : State} (e : t'.irqStore = t.irqStore) : IrqKept t' s := (IrqKept.of_eq e).trans h

/-! ### Retirements, drain completion and halt entry -/

/-- A retirement raises BACKLOG at most (R170). -/
theorem retire_irqKept (u : Byte) (c : OutcomeCode) (s : State) : IrqKept (retire u c s) s := by
  refine ⟨⟨by simp, by simp, by simp, by simp, fun hb => ?_⟩, by simp⟩
  cases hr : s.liveRecord u with
  | none => rwa [retire_absent hr]
  | some r =>
    rw [retire_live hr]
    by_cases hq : ((s.dropAnnounce u).dropListed r).queueTakes = true
    · rw [accept_queued hq]
      simp [hb]
    · rw [accept_backlogged (by simpa using hq)]
      simp [hb]

/-- Drain completion raises DRAIN_DONE (R19). -/
theorem drainCheck_irqKept (s : State) : IrqKept (drainCheck s) s := by
  unfold drainCheck
  split
  · exact ⟨⟨id, id, fun _ => rfl, id, id⟩, rfl⟩
  · exact .refl s

/-- A jam raises LANE_ALERT (R167); the rest of what settling is made of writes stations, records and lists. -/
theorem irqKept_settling : Settling IrqKept where
  refl := .refl
  trans := .trans
  setStation _ _ _ := .of_eq rfl
  modifyRecord _ _ _ := .of_eq rfl
  dropAnnounce _ _ := .of_eq rfl
  retire := retire_irqKept
  drainCheck := drainCheck_irqKept
  jammed _ _ := ⟨⟨fun _ => rfl, id, id, id, id⟩, rfl⟩

/-- A halt entry raises HALT_ENTERED, and BACKLOG where its retirements do (R22, R170). -/
theorem haltEntry_irqKept (cause : HaltCause) (s : State) : IrqKept (haltEntry cause s) s := by
  refine IrqKept.trans (b := ((s.items.filter ItemRecord.isLive).map ItemRecord.tag).foldl (fun a u => retire u .halted a)
    { s with run := .halt, haltCause := cause }) ?_ ?_
  · exact ⟨⟨id, fun _ => rfl, id, id, id⟩, rfl⟩
  · exact (irqKept_settling.foldl (fun a u => retire_irqKept u .halted a) _ _).trans (.of_eq rfl)

/-! ### Lanes (chapter 3) -/

/-- A lead edge raises FREE_LOW where it takes a slot, and LANE_ALERT where it finds none (R37, R74). -/
theorem takeLead_irqKept (l : LaneNo) (s : State) : IrqKept (takeLead l s) s := by
  unfold takeLead
  simp only
  split
  · split
    · exact ⟨⟨id, id, id, fun hf => by simp [allocate, hf], id⟩, rfl⟩
    · exact ⟨⟨fun _ => rfl, id, id, id, id⟩, rfl⟩
  · exact .refl s

theorem endMeasurement_irqKept (l : LaneNo) (u : Byte) (s : State) : IrqKept (endMeasurement l u s) s := by
  unfold endMeasurement
  simp only
  split
  · exact .of_eq rfl
  · split
    · exact .of_eq rfl
    · split
      · exact (drainCheck_irqKept _).trans (.of_eq rfl)
      · exact .of_eq rfl

theorem takeTrailing_irqKept (l : LaneNo) (s : State) : IrqKept (takeTrailing l s) s := by
  refine IrqKept.trans (b := takeJam l s) ?_ (irqKept_settling.takeJam l s)
  unfold takeTrailing takeTrailingNow
  simp only
  split
  case h_6 =>
    split
    · exact endMeasurement_irqKept l _ _
    · exact .of_eq rfl
  all_goals exact .of_eq rfl

theorem takeSense_irqKept (l : LaneNo) (x : Sense) (s : State) : IrqKept (takeSense l x s) s := by
  cases x with
  | lead => exact takeLead_irqKept l s
  | trailing => exact takeTrailing_irqKept l s

theorem flushLane_irqKept (l : LaneNo) (s : State) : IrqKept (flushLane l s) s := by
  unfold flushLane
  split
  · exact .refl s
  · exact (takeSense_irqKept l _ _).trans (.of_eq rfl)

/-! ### The advance, XSTOP and what a tick has made (log 1, log 2) -/

theorem advance_irqKept (s : State) : IrqKept (advance s) s := by
  have hcount : ∀ a : State, IrqKept { a with p := a.p + 1 } a := fun _ => .of_eq rfl
  have hreached := irqKept_settling.settleReached s
  cases hr : (settleReached s).running with
  | true => rw [advance_running rfl hr]; exact (hcount _).trans hreached
  | false => rw [advance_resting rfl hr]; exact hreached

theorem takeDueAdvance_irqKept (s : State) : IrqKept (takeDueAdvance s) s := by
  unfold takeDueAdvance
  split
  · simp only
    split
    · exact (advance_irqKept _).trans (.of_eq rfl)
    · exact .of_eq rfl
  · exact .refl s

theorem takeXstop_irqKept (d : EdgeDir) (s : State) : IrqKept (takeXstop d s) s := by
  cases d with
  | rising => exact .refl s
  | falling =>
    simp only [takeXstop]
    split
    · split
      · exact (haltEntry_irqKept .xstop _).trans (irqKept_settling.settleDue s)
      · exact irqKept_settling.settleDue s
    · exact .refl s

theorem flushXstop_irqKept (s : State) : IrqKept (flushXstop s) s := by
  unfold flushXstop
  split
  · exact .refl s
  · exact (takeXstop_irqKept _ _).trans (.of_eq rfl)

/-- The lanes' edges and the XSTOP change, the last part of what a tick has made. -/
theorem flushes_irqKept (s : State) : IrqKept (flushXstop (forLanes flushLane s)) s :=
  (flushXstop_irqKept _).trans (irqKept_settling.forLanes flushLane_irqKept s)

theorem finishTick_irqKept (s : State) : IrqKept (finishTick s) s :=
  (flushes_irqKept _).trans ((takeDueAdvance_irqKept _).trans (irqKept_settling.settleEngines s))

theorem engineTick_irqKept (n : StationNo) (s : State) : IrqKept (engineTick n s) s := .of_eq (by simp [State.irqStore])

theorem takeLateTick_irqKept (n : StationNo) (s : State) : IrqKept (takeLateTick n s) s := .of_eq (by simp [State.irqStore])

theorem settleAll_irqKept (s : State) : IrqKept (settleAll s) s := by
  have hreached : IrqKept (settleReached (takeDueAdvance (settleDue s))) s :=
    (irqKept_settling.settleReached _).trans ((takeDueAdvance_irqKept _).trans (irqKept_settling.settleDue s))
  have hlate := (irqKept_settling.forStations takeLateTick_irqKept _).trans hreached
  have hflushed := (flushes_irqKept _).trans ((irqKept_settling.settleEngines _).trans hlate)
  exact hflushed

/-! ### Edges, events and the tick -/

/-- What holds before an event and after what it does holds after the event, taken or not. -/
theorem event_of_both {Q : State → Prop} {f : State → State} (hs : Q s) (hf : Q (f s)) : Q (event f s) := by
  unfold event
  split
  · exact hs
  · exact hf

theorem event_irqKept {f : State → State} (h : IrqKept (f s) s) : IrqKept (event f s) s :=
  event_of_both (Q := fun t => IrqKept t s) (.refl s) h

theorem access_irqKept {f : State → State} (h : ∀ a, IrqKept (f a) a) : IrqKept (access f s) s :=
  event_irqKept ((h _).trans (finishTick_irqKept s))

theorem edgeStart_irqKept (waits : Bool) (s : State) : IrqKept (edgeStart waits s) s := by
  unfold edgeStart
  split
  · exact .refl s
  · exact finishTick_irqKept s

theorem takeEncoder_irqKept (d : EdgeDir) (s : State) : IrqKept (takeEncoder d s) s := by
  unfold takeEncoder
  simp only
  split
  · exact (advance_irqKept _).trans (.of_eq rfl)
  · exact .of_eq rfl

theorem encoderEdge_irqKept (d : EdgeDir) (waits : Bool) (s : State) :
    IrqKept (takeEncoder d { edgeStart waits s with advanceDue := false }) s :=
  (takeEncoder_irqKept d _).trans ((edgeStart_irqKept waits s).frame rfl)

theorem laneEdge_irqKept (l : LaneNo) (x : Sense) (s : State) : IrqKept (laneEdge l x s) s :=
  (takeSense_irqKept l x _).trans ((edgeStart_irqKept (s.laneWaits l x) s).frame rfl)

theorem xstopChange_irqKept (d : EdgeDir) (s : State) : IrqKept (xstopChange d s) s :=
  (takeXstop_irqKept d _).trans ((edgeStart_irqKept (decide (s.xstopEdge = some d)) s).frame rfl)

theorem takeRateExpiry_irqKept (s : State) : IrqKept (takeRateExpiry s) s := by
  unfold takeRateExpiry
  split
  · exact takeDueAdvance_irqKept s
  · exact .refl s

/-- The samples, the countdown and the engines' counts write no flag (R1). -/
theorem tickNow_irqKept (pins : PinSamples) (late : BitVec 8) (s : State) : IrqKept (tickNow pins late s) s := by
  have hlanes : ∀ a, IrqKept (sampleLanes pins.sns a) a := irqKept_settling.forLanes fun _ _ => .of_eq rfl
  have hcount : ∀ a, IrqKept (countRate a) a := fun a => by
    unfold countRate
    (repeat' split) <;> exact .of_eq rfl
  have hengines : ∀ a, IrqKept (tickEngines late a) a := irqKept_settling.forStations fun n a => by
    simp only
    split
    · exact .of_eq rfl
    · exact engineTick_irqKept n a
  exact (hengines _).trans ((hcount _).trans ((hlanes _).trans (.of_eq rfl)))

/-! ### The commands -/

theorem promote_irqKept (s : State) : IrqKept (promote s) s := .of_eq (by simp [State.irqStore])

theorem doDrain_irqKept (s : State) : IrqKept (doDrain s).2 s := by
  unfold doDrain
  split
  · exact .refl s
  · exact (drainCheck_irqKept _).trans (.of_eq rfl)

theorem doHalt_irqKept (s : State) : IrqKept (doHalt s).2 s := by
  obtain ⟨a, ha, hdue⟩ : ∃ a, a = settleDue s ∧ IrqKept a s := ⟨_, rfl, irqKept_settling.settleDue s⟩
  cases hr : s.running with
  | false => rw [doHalt_refused hr]; exact .refl s
  | true =>
    cases hra : a.running with
    | false => rw [doHalt_ended hr ha hra]; exact hdue
    | true => rw [doHalt_taken hr ha hra]; exact (haltEntry_irqKept .command a).trans hdue

theorem doNextOutcome_irqKept (s : State) : IrqKept (doNextOutcome s).2 s := by
  unfold doNextOutcome
  split
  · exact .refl s
  · exact (promote_irqKept _).trans (.of_eq rfl)

/-- A verdict that is taken places an order; every other one changes nothing (R76, R81). -/
theorem verdictPending_irqKept (r : ItemRecord) (s : State) : IrqKept (verdictPending r s).2 s := by
  unfold verdictPending
  split
  · exact .refl s
  · simp only
    split
    · exact .refl s
    · split
      · exact .refl s
      · split
        · exact .refl s
        · split
          · exact .refl s
          · exact irqKept_settling.place r.tag _ _ _ s

theorem doVerdict_irqKept (s : State) : IrqKept (doVerdict s).2 s := by
  unfold doVerdict
  split
  · exact .refl s
  next r _ =>
    cases r.state with
    | pending => exact verdictPending_irqKept r s
    | measuring | committed | firing | retired => exact .refl s

theorem doPass_irqKept (s : State) : IrqKept (doPass s).2 s := by
  unfold doPass
  split
  · exact .refl s
  next r _ =>
    cases r.state with
    | pending => exact irqKept_settling.retireAndCheck r.tag .passed s
    | measuring | committed | firing | retired => exact .refl s

theorem doAbort_irqKept (s : State) : IrqKept (doAbort s).2 s := by
  unfold doAbort
  split
  · exact .refl s
  next r _ =>
    cases r.state with
    | pending | committed => exact irqKept_settling.retireAndCheck r.tag .aborted s
    | measuring | firing | retired => exact .refl s

/-- No command writes the enables, and none clears a sticky flag; SET_FREE_THRESHOLD leaves FREE_LOW (R73). -/
theorem commandBody_irqKept (c : HostCommand) (s : State) : IrqKept (commandBody c s).2 s := by
  cases c with
  | drain => exact doDrain_irqKept s
  | halt => exact doHalt_irqKept s
  | nextOutcome => exact doNextOutcome_irqKept s
  | verdict => exact doVerdict_irqKept s
  | pass => exact doPass_irqKept s
  | abort => exact doAbort_irqKept s
  | _ =>
    simp only [commandBody, doStart, doResume, doClearLine, doSetTimebase, doSetPosition, doSetLane, doSetStation, doSetProfile,
      doSetFreeThreshold, doReadLane, doReadStation, doReadProfile, doReadItem, doReadTimebase, doNextDetection]
    (repeat' split) <;> exact .of_eq rfl

theorem runCommand_irqKept (c : HostCommand) (s : State) : IrqKept (runCommand c s) s := by
  cases hr : s.inReset with
  | true => rw [runCommand_held hr]; exact .refl s
  | false =>
    rw [runCommand_taken hr]
    exact ((commandBody_irqKept c _).trans (finishTick_irqKept s)).frame rfl

theorem writeCmd_irqKept (b : Byte) (s : State) : IrqKept (writeCmd b s) s := by
  unfold writeCmd
  split
  · exact runCommand_irqKept _ s
  · exact event_irqKept (.of_eq rfl)

/-! ### Writes of the window (R150) -/

theorem deliver_irqFlags (b : Byte) (s : State) : deliver 0x0F b s = clearFlags b s := rfl

theorem deliver_irqEnable (b : Byte) (s : State) : deliver 0x10 b s = writeEnables b s := rfl

/-- A byte delivered to neither IRQ_FLAGS nor IRQ_ENABLE. -/
theorem deliver_irqKept {a : BitVec 6} (hf : a ≠ 0x0F) (he : a ≠ 0x10) (b : Byte) (s : State) : IrqKept (deliver a b s) s := by
  have hf' : a.toNat ≠ 0x0F := fun h => hf (BitVec.eq_of_toNat_eq h)
  have he' : a.toNat ≠ 0x10 := fun h => he (BitVec.eq_of_toNat_eq h)
  simp only [deliver, hf', he', if_false]
  split
  · exact writeCmd_irqKept b s
  · split <;> exact .of_eq rfl

/-! ### The rows -/

/-- Every row but the writes of IRQ_FLAGS and IRQ_ENABLE and the resets. -/
theorem exec_irqKept {c : Instr} (he : exec c s = .next t) (hflags : ∀ b, c ≠ .irqFlagsWrite b)
    (henable : ∀ b, c ≠ .irqEnableWrite b) (hwrite : ∀ a b y, c = .registerWrite a b y → a ≠ 0x0F ∧ a ≠ 0x10)
    (hreset : ∀ n, c ≠ .reset n) (hrelease : c ≠ .resetRelease) : IrqKept t s := by
  cases c <;> obtain rfl := Host.Outcome.next.inj he
  case irqFlagsWrite b => exact absurd rfl (hflags b)
  case irqEnableWrite b => exact absurd rfl (henable b)
  case reset n => exact absurd rfl (hreset n)
  case resetRelease => exact absurd rfl hrelease
  case badCommand b => exact writeCmd_irqKept b s
  case registerWrite a b y =>
    obtain ⟨hf, he⟩ := hwrite a b y rfl
    refine event_irqKept ?_
    split
    · exact deliver_irqKept hf he b s
    · exact .refl s
  case paramWrite => exact event_irqKept (.of_eq rfl)
  case pos0Read => exact access_irqKept fun _ => .of_eq rfl
  case tick pins late => exact event_irqKept ((tickNow_irqKept pins late _).trans (settleAll_irqKept s))
  case encoderEdge d => exact event_irqKept (encoderEdge_irqKept d (s.encoderWaits d) s)
  case rateCountdownExpiry => exact event_irqKept (takeRateExpiry_irqKept s)
  case xstopActive => exact event_irqKept (xstopChange_irqKept .falling s)
  case xstopInactive => exact event_irqKept (xstopChange_irqKept .rising s)
  case leadEdge l => exact event_irqKept (laneEdge_irqKept l .lead s)
  case trailingEdge l => exact event_irqKept (laneEdge_irqKept l .trailing s)
  case jam l => exact event_irqKept (irqKept_settling.takeJam l s)
  case deadline u => exact event_irqKept (irqKept_settling.takeDeadline u s)
  case arrival n => exact event_irqKept (irqKept_settling.takeArrival n s)
  case offPositionReached n => exact event_irqKept (irqKept_settling.takeOffPosition n s)
  case timePulseEnd n => exact event_irqKept ((irqKept_settling.takeTimePulseEnd n _).trans (takeLateTick_irqKept n s))
  case maxOnCut n => exact event_irqKept ((irqKept_settling.takeMaxOnCut n _).trans (takeLateTick_irqKept n s))
  case recoveryEnd n => exact event_irqKept ((irqKept_settling.takeRecoveryEnd n _).trans (takeLateTick_irqKept n s))
  case guardMarkReached n => exact event_irqKept (irqKept_settling.takeGuardMark n s)
  case drainCompletion => exact event_irqKept (drainCheck_irqKept s)
  case backlogPromotion => exact event_irqKept (promote_irqKept s)
  all_goals exact runCommand_irqKept _ s

/-- A write of IRQ_FLAGS leaves the enables. -/
theorem clearFlags_enables (b : Byte) (s : State) : (clearFlags b s).enables = s.enables := by
  have hwrite : ∀ a, (writeFlags b a).enables = a.enables := fun _ => rfl
  unfold clearFlags
  cases hr : s.inReset with
  | true => rw [access_held hr]
  | false => rw [access_taken hr, hwrite, finishTick_enables]

/-- A write of IRQ_ENABLE leaves the sticky flags. -/
theorem writeEnables_stickyKept (b : Byte) (s : State) : StickyKept (writeEnables b s) s := ⟨id, id, id, id, id⟩

/-- Only its own write and reset change IRQ_ENABLE (R163). -/
theorem exec_enables {c : Instr} (he : exec c s = .next t) (henable : ∀ b, c ≠ .irqEnableWrite b)
    (hwrite : ∀ b y, c ≠ .registerWrite 0x10 b y) (hreset : ∀ n, c ≠ .reset n) (hrelease : c ≠ .resetRelease) :
    t.enables = s.enables := by
  by_cases hflags : ∃ b, c = .irqFlagsWrite b
  · obtain ⟨b, rfl⟩ := hflags
    obtain rfl := Host.Outcome.next.inj he
    exact clearFlags_enables b s
  by_cases hwriteFlags : ∃ b y, c = .registerWrite 0x0F b y
  · obtain ⟨b, y, rfl⟩ := hwriteFlags
    obtain rfl := Host.Outcome.next.inj he
    refine event_of_both (Q := fun t => t.enables = s.enables) rfl ?_
    split
    · rw [deliver_irqFlags, clearFlags_enables]
    · rfl
  refine (exec_irqKept he (not_exists.1 hflags) henable ?_ hreset hrelease).enables
  rintro a b y rfl
  exact ⟨fun e => hwriteFlags ⟨b, y, e ▸ rfl⟩, fun e => hwrite b y (e ▸ rfl)⟩

/-- Only a write of IRQ_FLAGS and reset clear a sticky flag (R166). -/
theorem exec_stickyKept {c : Instr} (he : exec c s = .next t) (hflags : ∀ b, c ≠ .irqFlagsWrite b)
    (hwrite : ∀ b y, c ≠ .registerWrite 0x0F b y) (hreset : ∀ n, c ≠ .reset n) (hrelease : c ≠ .resetRelease) :
    StickyKept t s := by
  have hkept : StickyKept s s := (IrqKept.refl s).toStickyKept
  by_cases henable : ∃ b, c = .irqEnableWrite b
  · obtain ⟨b, rfl⟩ := henable
    obtain rfl := Host.Outcome.next.inj he
    exact event_of_both (Q := fun t => StickyKept t s) hkept (writeEnables_stickyKept b s)
  by_cases hwriteEnable : ∃ b y, c = .registerWrite 0x10 b y
  · obtain ⟨b, y, rfl⟩ := hwriteEnable
    obtain rfl := Host.Outcome.next.inj he
    refine event_of_both (Q := fun t => StickyKept t s) hkept ?_
    split
    · rw [deliver_irqEnable]
      exact writeEnables_stickyKept b s
    · exact hkept
  refine (exec_irqKept he hflags (not_exists.1 henable) ?_ hreset hrelease).toStickyKept
  rintro a b y rfl
  exact ⟨fun e => hwrite b y (e ▸ rfl), fun e => hwriteEnable ⟨b, y, e ▸ rfl⟩⟩

end

/-- Settles O10. -/
theorem enablesAreStoredAndKept : Obligations.EnablesAreStoredAndKept :=
  ⟨fun b _ hreset => ⟨exec_irqEnableWrite hreset b, setWidth_setWidth_eq_and b⟩, fun _ _ _ he => exec_enables he⟩

/-- Settles O11. -/
theorem stickyFlagsClearByWriteUnlessHeld : Obligations.StickyFlagsClearByWriteUnlessHeld := by
  refine ⟨fun b s₀ s hreset hs => ?_, fun c s t he hflags hwrite hreset hrelease => ?_⟩
  · rw [exec_irqFlagsWrite hreset, ← hs, writeFlags_eq]
  · obtain ⟨hlane, hhalt, hdrain, hfree, hbacklog⟩ := exec_stickyKept he hflags hwrite hreset hrelease
    exact ⟨hlane, hhalt, hdrain, hfree, hbacklog⟩

end Sys2Proof.Machine
end
